-- ==== Sys2Proof/Word.lean ====
section
/-! DEFINITION. The word of the block: 32 bits, bit 0 the least significant (00_scope.md R8, R10). -/

namespace Sys2Proof

/-- A 32-bit register value, request word or response word (REG_W of R8). -/
abbrev Word := BitVec 32

/-- One byte of text shown by the Attribute Bridge (42_lifecycle.md R512); no register is accessed by bytes (R200). -/
abbrev Byte := BitVec 8

/-- `u32(v)`: a word read as an unsigned number (R11). -/
abbrev u32 (v : Word) : Nat := v.toNat

/-- `s32(v)`: a word read as a two's-complement signed number (R11). -/
abbrev s32 (v : Word) : Int := v.toInt

end Sys2Proof
end

