-- ==== Sys2Proof/Syntax.lean ====
section
/-! DEFINITION. The request words of 30_encoding.md R300 and the eight requests of spec/opcode_table.json. -/

namespace Sys2Proof

/-- Request format REQ (R300): exactly three 32-bit words. -/
structure Request where
  /-- W0: OP in bits 3:0, RSV in bits 31:4. -/
  w0 : Word
  /-- W1: the first operand A. -/
  w1 : Word
  /-- W2: the second operand B. -/
  w2 : Word
  deriving DecidableEq, Repr

/-- The eight requests, their operands read as R302 says: a pin, base or size as an unsigned number, a mode or pin value as a
signed number. An operand word that R302 calls ignored is no part of the request (D33) [21]. -/
inductive Instr where
  /-- `function_select_index(pin)` (R402). -/
  | fselIndex (pin : Nat)
  /-- `function_select_offset(pin)` (R403). -/
  | fselOffset (pin : Nat)
  /-- `bit_index(pin)` (R404). -/
  | bitIndex (pin : Nat)
  /-- `configure_mode(pin, mode)` (R451). -/
  | configureMode (pin : Nat) (mode : Int)
  /-- `write_pin(pin, value)` (R452). -/
  | writePin (pin : Nat) (value : Int)
  /-- `read_pin(pin)` (R453). -/
  | readPin (pin : Nat)
  /-- `bind(base_address, block_size)` (R500). -/
  | bind (base : Nat) (size : Nat)
  /-- `unbind(handle)` (R501). -/
  | unbind
  deriving DecidableEq, Repr

end Sys2Proof
end

