-- ==== Sys2Proof/WellFormed.lean ====
section
/-! DEFINITION. The operand ranges of 30_encoding.md R302: what an instruction's operands can be, given that each came from one
32-bit word. R305: no other check belongs to the decoder. -/

namespace Sys2Proof

/-- An unsigned operand of one word: 0 to 2^32 - 1. -/
def isU32 (n : Nat) : Bool := decide (n < 2 ^ 32)

/-- A signed operand of one word: -2^31 to 2^31 - 1. -/
def isS32 (z : Int) : Bool := decide (-2 ^ 31 ≤ z) && decide (z < 2 ^ 31)

/-- Every operand lies in the range R302 gives it. -/
def Instr.wf : Instr → Bool
  | .fselIndex pin          => isU32 pin
  | .fselOffset pin         => isU32 pin
  | .bitIndex pin           => isU32 pin
  | .configureMode pin mode => isU32 pin && isS32 mode
  | .writePin pin value     => isU32 pin && isS32 value
  | .readPin pin            => isU32 pin
  | .bind base size         => isU32 base && isU32 size
  | .unbind                 => true

end Sys2Proof
end

