-- ==== Sys2Proof/Decode.lean ====
section
/-! DEFINITION. The decoder of request words (30_encoding.md R300 to R305), total on every request and rejecting by name, and the
encoder that writes an instruction's words (R303, R308). -/

namespace Sys2Proof

/-- Why a request is reserved (R304), under the names of 60_exceptions.md R607. -/
inductive Reject where
  /-- OP is 0x0 or 0x9 to 0xF. -/
  | reservedOpcode
  /-- W0[31:4] is not 0. -/
  | reservedBits
  deriving DecidableEq, Repr

/-- The field OP, W0[3:0] (R300). -/
def opField (w0 : Word) : BitVec 4 := w0.extractLsb' 0 4

/-- The field RSV, W0[31:4] (R300). -/
def rsvField (w0 : Word) : BitVec 28 := w0.extractLsb' 4 28

/-- The operation a request names (R302, R303). A request whose reserved bits are set is rejected for them whatever its OP: the
vector V8 gives RESERVED_BITS for 0xFFFFFFFF, whose OP is reserved as well [10]. -/
def decode (r : Request) : Except Reject Instr :=
  if rsvField r.w0 ≠ 0 then .error .reservedBits
  else match (opField r.w0).toNat with
    | 1 => .ok (.fselIndex (u32 r.w1))
    | 2 => .ok (.fselOffset (u32 r.w1))
    | 3 => .ok (.bitIndex (u32 r.w1))
    | 4 => .ok (.configureMode (u32 r.w1) (s32 r.w2))
    | 5 => .ok (.writePin (u32 r.w1) (s32 r.w2))
    | 6 => .ok (.readPin (u32 r.w1))
    | 7 => .ok (.bind (u32 r.w1) (u32 r.w2))
    | 8 => .ok .unbind
    | _ => .error .reservedOpcode

/-- The W0 of an instruction (R303). -/
def opcode : Instr → Word
  | .fselIndex _       => 0x00000001
  | .fselOffset _      => 0x00000002
  | .bitIndex _        => 0x00000003
  | .configureMode _ _ => 0x00000004
  | .writePin _ _      => 0x00000005
  | .readPin _         => 0x00000006
  | .bind _ _          => 0x00000007
  | .unbind            => 0x00000008

/-- The request words of an instruction (R302, R303); every ignored word is written 0 (R308). -/
def encode (i : Instr) : Request :=
  match i with
  | .fselIndex pin          => ⟨opcode i, BitVec.ofNat 32 pin, 0⟩
  | .fselOffset pin         => ⟨opcode i, BitVec.ofNat 32 pin, 0⟩
  | .bitIndex pin           => ⟨opcode i, BitVec.ofNat 32 pin, 0⟩
  | .configureMode pin mode => ⟨opcode i, BitVec.ofNat 32 pin, BitVec.ofInt 32 mode⟩
  | .writePin pin value     => ⟨opcode i, BitVec.ofNat 32 pin, BitVec.ofInt 32 value⟩
  | .readPin pin            => ⟨opcode i, BitVec.ofNat 32 pin, 0⟩
  | .bind base size         => ⟨opcode i, BitVec.ofNat 32 base, BitVec.ofNat 32 size⟩
  | .unbind                 => ⟨opcode i, 0, 0⟩

/-- The request whose bits are `w`, bit 0 the least significant of W0, W1 from bit 32 on and W2 from bit 64 on; the bits from
`nbits` up are 0. -/
def requestOfBits (nbits w : Nat) : Request :=
  let v := w % 2 ^ nbits
  ⟨BitVec.ofNat 32 v, BitVec.ofNat 32 (v / 2 ^ 32), BitVec.ofNat 32 (v / 2 ^ 64)⟩

/-- The instruction the decoder reads from the words `requestOfBits nbits w`, none where it rejects them. -/
def decodeTableWord (nbits w : Nat) : Option Instr :=
  match decode (requestOfBits nbits w) with
  | .ok i    => some i
  | .error _ => none

end Sys2Proof
end

