-- ==== Sys2Proof/Config.lean ====
section
/-! DEFINITION. The open parameters of 00_scope.md R9, and the free values of the model's draws.

The parameters are "each a named argument of the model": a `Config` is a field of State that no step changes, so a statement
about every state is a statement about every value of the parameters. -/

namespace Sys2Proof

/-- LEVEL_MODE (R9, R115): where level bits come from. -/
inductive LevelMode where
  /-- Real pins: every level bit is a draw. -/
  | external
  /-- The source's test double: a level bit is the pin's output latch. -/
  | loopback
  deriving DecidableEq, Repr

/-- The open parameters of R9. -/
structure Config where
  /-- GPIO_BASE, the physical base address of the register block. -/
  gpioBase  : Nat
  /-- PADDR_W, the width of a physical address. -/
  paddrW    : Nat
  /-- BLOCK_SIZE, the size in bytes of the register block. -/
  blockSize : Word
  /-- LEVEL_MODE. -/
  levelMode : LevelMode
  /-- SERIALIZED: whether the environment serializes requests. -/
  serialized : Bool
  /-- NPINS, the number of wired lines; no rule reads it (R9, R714). -/
  npins     : Nat
  /-- FSEL_INIT, the six function-select words at reset. -/
  fselInit  : Vector Word 6
  /-- LATCH_INIT, the 64 output-latch bits at reset. -/
  latchInit : BitVec 64
  deriving DecidableEq, Repr

/-- The constraints column of R9: GPIO_BASE a multiple of 4 and an address of PADDR_W bits, PADDR_W at least 32, BLOCK_SIZE a
multiple of 4 and at least 0x3C, NPINS at most 64, LATCH_INIT zero in `loopback`. -/
def Config.wf (c : Config) : Bool :=
  c.gpioBase % 4 == 0 && decide (c.gpioBase < 2 ^ c.paddrW) && decide (32 ≤ c.paddrW)
    && c.blockSize.toNat % 4 == 0 && decide (0x3C ≤ c.blockSize.toNat) && decide (c.npins ≤ 64)
    && (c.levelMode != .loopback || c.latchInit == 0)

/-- The parameter values of the conventions of 95_test_vectors.md (GPIO_BASE 0x10000000, BLOCK_SIZE 0x50, PADDR_W 32, `loopback`,
SERIALIZED true, FSEL_INIT and LATCH_INIT zero), used by `State.reset` alone. NPINS, which that file does not give, is 64.
DESIGN CHOICE, unsafe [1] [2] [3] [31]: the spec leaves every one of them open. -/
def Config.reference : Config where
  gpioBase   := 0x10000000
  paddrW     := 32
  blockSize  := 0x50
  levelMode  := .loopback
  serialized := true
  npins      := 64
  fselInit   := Vector.replicate 6 0
  latchInit  := 0

/-- The environment's answer to a BIND, at the n-th draw, where State holds none ready: a free value (R500, R13) [8]. -/
opaque Config.freeGrant : Nat → Bool

/-- The level word of a LEV read in `external` mode, at the n-th draw, where State holds none ready: a free value (R115, R13) [8]. -/
opaque Config.freeLevel : Nat → Word

/-- Which of the moves R211 admits comes next, at the n-th draw, where State holds no choice ready: a free value (R211, U19) [8] [13]. -/
opaque Config.freeTurn : Nat → Nat

end Sys2Proof
end

