-- ==== Sys2Proof/Machine/Operands.lean ====
section
/-! DEFINITION. The Register Map of 40_register_map.md: index and offset functions (R401), range predicates (R409), the mode
field's encoder and decoder (R405, R406), the mode code (R407), the one-hot word (R408), and the operand zext of R302. Pure
functions: they read only their arguments (R400). -/

namespace Sys2Proof.Machine

/-- `fsel_index(p) = p / 10` (R401). -/
def fselIndex (p : Nat) : Nat := p / 10

/-- `fsel_offset(p) = 3 * (p - 10 * fsel_index(p))` (R401). -/
def fselOffset (p : Nat) : Nat := 3 * (p - 10 * fselIndex p)

/-- `bit_reg(p) = p / 32` (R401). -/
def bitReg (p : Nat) : Nat := p / 32

/-- `bit_pos(p) = p mod 32` (R401). -/
def bitPos (p : Nat) : Nat := p % 32

/-- `fsel_in_range(p)`: the pin's function-select register exists (R409). -/
def fselInRange (p : Nat) : Bool := decide (fselIndex p < 6)

/-- `bit_in_range(p)`: the pin's set, clear and level registers exist (R409). -/
def bitInRange (p : Nat) : Bool := decide (bitReg p < 2)

/-- `encode_fsel(w, off, c)`: clear the 3-bit field at `off`, OR in the code shifted to the same offset (R405, C6). -/
def encodeFsel (w : Word) (off : Nat) (c : BitVec 3) : Word :=
  (w &&& ~~~(0b111#32 <<< off)) ||| (c.setWidth 32 <<< off)

/-- `decode_fsel(w, off)`: the code of the 3-bit field at `off` (R406). -/
def decodeFsel (w : Word) (off : Nat) : BitVec 3 := (w >>> off).setWidth 3

/-- `mode_code(mode)`: 0 is Input, 0b000; 1 is Output, 0b001; every other value is invalid (R407) [24]. -/
def modeCode (mode : Int) : Option (BitVec 3) :=
  if mode = 0 then some 0b000 else if mode = 1 then some 0b001 else none

/-- The pin value of WRITE_PIN: 0 and 1 are valid, every other value is not (R8, R452). -/
def pinValue (value : Int) : Option Bool :=
  if value = 0 then some false else if value = 1 then some true else none

/-- `onehot(p) = 1 << bit_pos(p)` (R408). -/
def onehot (p : Nat) : Word := 1#32 <<< bitPos p

/-- `zext_PADDR_W(a)` as a number (R302): the operand read into an address of PADDR_W bits. -/
def zextPaddr (c : Config) (a : Nat) : Nat := (BitVec.ofNat c.paddrW a).toNat

/-- A number as a response word. -/
def wordOf (n : Nat) : Word := BitVec.ofNat 32 n

end Sys2Proof.Machine
end

