-- ==== Sys2Proof/Machine/Flags.lean ====
section
/-! DEFINITION. The block's only flags: the status codes of a response (10_state.md R122, 30_encoding.md R306) and the fault codes
of FAULT (60_exceptions.md R605). -/

namespace Sys2Proof.Machine

/-- The five statuses (R122). -/
inductive Status where
  | ok | unmapped | invalidMode | invalidValue | addressMapFailure
  deriving DecidableEq, Repr

/-- The numeric codes of R306. -/
def Status.code : Status → Word
  | .ok                => 0
  | .unmapped          => 1
  | .invalidMode       => 2
  | .invalidValue      => 3
  | .addressMapFailure => 4

/-- The legacy return values of R306 and S7; the source gives none for success or for AddressMapFailure. -/
def Status.legacy : Status → Option Int
  | .ok                => none
  | .unmapped          => some (-1)
  | .invalidMode       => some (-2)
  | .invalidValue      => some (-2)
  | .addressMapFailure => none

/-- The four faults a request can raise (R605). -/
inductive FaultCode where
  /-- The pin's register index names no register of its kind. -/
  | pinRange
  /-- BIND when LIFE is not UNBOUND. -/
  | lifecycle
  /-- BIND whose base or size is not the fixed constant. -/
  | bindArgs
  /-- The mapping was released between CONFIGURE_MODE's read and write. -/
  | useAfterRelease
  deriving DecidableEq, Repr

/-- The codes held in FAULT (R605). -/
def FaultCode.code : FaultCode → BitVec 8
  | .pinRange        => 1
  | .lifecycle       => 2
  | .bindArgs        => 3
  | .useAfterRelease => 4

/-- The fault a code of FAULT names; 0 names none and codes 5 to 255 are never raised (R605). -/
def FaultCode.ofCode (c : BitVec 8) : Option FaultCode :=
  if c = 1 then some .pinRange else if c = 2 then some .lifecycle else if c = 3 then some .bindArgs
  else if c = 4 then some .useAfterRelease else none

end Sys2Proof.Machine
end

