-- ==== Sys2Proof/Machine/State.lean ====
section
/-! DEFINITION. Every piece of state of 10_state.md, its value after reset (R130), and the reasons a step can stop. -/

namespace Sys2Proof.Machine

/-- LIFE, the lifecycle state of the mapping handle (R101). -/
inductive Life where
  /-- No mapping has been made since reset. -/
  | unbound
  /-- A mapping exists and may be used. -/
  | mapped
  /-- The mapping was released by UNBIND. -/
  | released
  /-- BIND failed with ADDRESS_MAP_FAILURE. -/
  | dead
  deriving DecidableEq, Repr

/-- The response latch RSP (R121). -/
structure Rsp where
  status : Word
  d0     : Word
  d1     : Word
  deriving DecidableEq, Repr

/-- A CONFIGURE_MODE between its read and its write (R125): the target register index and the value read, TMP, with the offset and
code its write will use (R451), and the caller that waits for its response (the model's own) [13]. -/
structure Rmw where
  reg  : Nat
  off  : Nat
  code : BitVec 3
  tmp  : Word
  /-- The index in `queues` of the caller. -/
  caller : Nat
  deriving DecidableEq, Repr

/-- One 32-bit register transaction at a physical address, with the word read or written (R12, R203). -/
inductive Txn where
  | read (addr : Nat) (v : Word)
  | write (addr : Nat) (v : Word)
  deriving DecidableEq, Repr

/-- The environment's side of `draw()` (R13): the values it has ready for the coming draws, first to be used first, and the number
of draws made so far. A draw that finds none ready is a free value of Config at that number [8]. -/
structure Env where
  /-- Outcomes of coming BINDs (R500). -/
  grants : List Bool
  /-- Level words of coming LEV reads in `external` mode (R115). -/
  levels : List Word
  /-- Choices among the moves R211 admits. -/
  turns  : List Nat
  /-- Draws made so far. -/
  drawn  : Nat
  deriving DecidableEq, Repr

/-- The state of the block, of the register block it drives and of the host's request sequence (10_state.md). -/
structure State where
  /-- The open parameters (00_scope.md R9); no step changes them. -/
  cfg      : Config
  /-- LIFE (R101). -/
  life     : Life
  /-- BASE (R102). -/
  base     : Nat
  /-- SIZE (R102). -/
  size     : Word
  /-- FSEL[0..5] (R106). -/
  fsel     : Vector Word 6
  /-- RSVD0, RSVD1, RSVD2 (R108). -/
  rsvd     : Vector Word 3
  /-- EVT, the region from offset 0x3C to BLOCK_SIZE - 1, as 32-bit words (R112). -/
  evt      : List Word
  /-- LATCH[0..63]: bit p is the output level of pin p (R113). -/
  latch    : BitVec 64
  /-- REQ, the request being performed, or none pending (R120). -/
  req      : Option Request
  /-- RSP (R121). -/
  rsp      : Rsp
  /-- FAULT, 0 when no fault has been raised (R123). -/
  fault    : BitVec 8
  /-- REFUSED (R124). -/
  refused  : Bool
  /-- The read-modify-writes in flight, oldest first (R125). -/
  inflight : List Rmw
  /-- The index of the next request: one up for each response (R104). -/
  pc       : Nat
  /-- The host's callers: for each, the requests it has still to issue, in order (R104, R613). A host that serializes its requests
  itself is one caller [13]. -/
  queues   : List (List Request)
  /-- Which caller issued the request in REQ (the model's own: the block is told no caller, R613, and no request reads it) [13]. -/
  caller   : Nat
  /-- The register transactions issued so far, oldest first (the model's own) [20]. -/
  bus      : List Txn
  /-- The environment (the model's own) [8]. -/
  env      : Env
  deriving DecidableEq, Repr

/-- Why the machine stops with a fault: a step is asked of a block that has recorded one (R606: it "takes no further step of any
kind"). Raised by `step` alone, when FAULT is not 0. Safe: the hardware this spec frames stops there as well. -/
inductive Fault where
  /-- FAULT holds a code R605 names. -/
  | stopped (cause : FaultCode)
  /-- FAULT holds a code that is never raised (R605, 5 to 255); no run from reset reaches it. -/
  | stoppedUnnamed (code : BitVec 8)
  deriving DecidableEq, Repr

/-- Why the machine refuses: a step is asked of a block that has refused a request (R607: it "takes no further step"), under the
reason R607 gives that refusal. Raised by `step` alone, when REFUSED is set; safe. `notModelled` is raised by no arm of exec. -/
inductive Refusal where
  /-- OP of the request held is 0x0 or 0x9 to 0xF. -/
  | reservedOpcode
  /-- W0[31:4] of the request held is not 0. -/
  | reservedBits
  /-- A model-level access to the register block that is not a transaction of R203. -/
  | rawAccess
  /-- An instruction without a meaning in this model: there is none. -/
  | notModelled (mnemonic : String)
  deriving DecidableEq, Repr

/-- What a meaning answers. -/
abbrev Answer := Host.Outcome State Fault Refusal

/-- The state after reset with the parameters `c` (R130, R700, R701): LIFE UNBOUND, FAULT 0, REFUSED 0, no request pending, none in
flight, FSEL and LATCH as the peripheral holds them (FSEL_INIT, LATCH_INIT). BASE, SIZE, RSVD, EVT and RSP are unspecified there;
they are zero: DESIGN CHOICE, unsafe [4] [5] [6]. The model's own
fields start empty or at 0 [8] [13] [20]. -/
def State.resetWith (c : Config) : State where
  cfg      := c
  life     := .unbound
  base     := 0
  size     := 0
  fsel     := c.fselInit
  rsvd     := Vector.replicate 3 0
  evt      := List.replicate ((c.blockSize.toNat - 0x3C) / 4) 0
  latch    := c.latchInit
  req      := none
  rsp      := ⟨0, 0, 0⟩
  fault    := 0
  refused  := false
  inflight := []
  pc       := 0
  queues   := []
  caller   := 0
  bus      := []
  env      := ⟨[], [], [], 0⟩

/-- The state after reset with the parameters of the conventions of 95_test_vectors.md [1]. -/
def State.reset : State := State.resetWith Config.reference

end Sys2Proof.Machine
end

