-- ==== Sys2Proof/Machine/Ops.lean ====
section
/-! DEFINITION. The shared operations: completing a request, raising a fault, refusing (00_scope.md R13), the environment's draws,
and the register transactions of 20_memory.md R203 over the register block of 10_state.md R105. -/

namespace Sys2Proof.Machine

/-! ## Updates of State, one for each group of fields that change together -/

/-- Write RSP, count the completed request, leave no request pending. -/
def State.answer (s : State) (r : Rsp) : State := { s with rsp := r, pc := s.pc + 1, req := none }

/-- Write FAULT. -/
def State.setFault (s : State) (c : BitVec 8) : State := { s with fault := c }

/-- Set REFUSED. -/
def State.setRefused (s : State) : State := { s with refused := true }

/-- Write LIFE. -/
def State.setLife (s : State) (l : Life) : State := { s with life := l }

/-- Write BASE and SIZE. -/
def State.setMapping (s : State) (base : Nat) (size : Word) : State := { s with base := base, size := size }

/-- Write FSEL[i]. -/
def State.setFsel (s : State) (i : Fin 6) (v : Word) : State := { s with fsel := s.fsel.set i v }

/-- Write LATCH. -/
def State.setLatch (s : State) (l : BitVec 64) : State := { s with latch := l }

/-- Record a register transaction. -/
def State.logTxn (s : State) (t : Txn) : State := { s with bus := s.bus ++ [t] }

/-- Write the environment's side of the draws. -/
def State.setEnv (s : State) (e : Env) : State := { s with env := e }

/-- Leave the request in flight between its read and its write, and free REQ for another caller's request. DESIGN CHOICE [12]: the spec
does not say what REQ holds in that gap, nor after the request's USE_AFTER_RELEASE, when REQ no longer holds it. -/
def State.defer (s : State) (r : Rmw) : State := { s with inflight := s.inflight ++ [r], req := none }

/-- Take the k-th read-modify-write out of flight. -/
def State.retire (s : State) (k : Nat) : State := { s with inflight := s.inflight.eraseIdx k }

/-- The caller `c` writes its next request into REQ, and `rest` is left of its sequence. -/
def State.issueNext (s : State) (c : Nat) (r : Request) (rest : List Request) : State :=
  { s with req := some r, caller := c, queues := s.queues.set c rest }

/-! ## The three ways a request ends (R13) -/

/-- `respond(status, d0, d1)` (R13, R121): the request completes. REQ then holds no pending request (R120) and `pc` advances by
exactly 1 (R104) [12]. It is in one step with the request's last transaction: with SERIALIZED false a DESIGN CHOICE [36]. -/
def respond (st : Status) (d0 d1 : Word) (s : State) : Answer := .next (s.answer ⟨st.code, d0, d1⟩)

/-- `raise Fault(code)` (R606): FAULT takes the code if it holds none, and no other state changes; the request gets no response. The
block then takes no further step: that is `step`'s check [9]. -/
def raise (f : FaultCode) (s : State) : Answer := .next (if s.fault = 0 then s.setFault f.code else s)

/-- `refuse(reason)` (R607): REFUSED is set and no other state changes. The reason is no state (R124); `step` reads it off the
request that stays in REQ [10]. -/
def refuse (s : State) : Answer := .next s.setRefused

/-! ## The environment's draws (R13) [8] -/

/-- The environment's outcome of a BIND (R500), and the state with the draw made. -/
def drawGrant (s : State) : Bool × State :=
  match s.env.grants with
  | g :: gs => (g, s.setEnv { s.env with grants := gs, drawn := s.env.drawn + 1 })
  | []      => (Config.freeGrant s.env.drawn, s.setEnv { s.env with drawn := s.env.drawn + 1 })

/-- A level word in `external` mode: a fresh draw per read and per bit (R115), and the state with the draw made. -/
def drawLevel (s : State) : Word × State :=
  match s.env.levels with
  | l :: ls => (l, s.setEnv { s.env with levels := ls, drawn := s.env.drawn + 1 })
  | []      => (Config.freeLevel s.env.drawn, s.setEnv { s.env with drawn := s.env.drawn + 1 })

/-- A choice among `n` moves (R211), below `n` where `n` is not 0, and the state with the draw made. Where there is at most one
move there is nothing to draw. -/
def drawTurn (n : Nat) (s : State) : Nat × State :=
  if n ≤ 1 then (0, s)
  else match s.env.turns with
    | t :: ts => (t % n, s.setEnv { s.env with turns := ts, drawn := s.env.drawn + 1 })
    | []      => (Config.freeTurn s.env.drawn % n, s.setEnv { s.env with drawn := s.env.drawn + 1 })

/-! ## The register block (R105) -/

/-- The registers of the block that R105's table names one by one. -/
inductive Reg where
  | fsel (i : Fin 6)
  | rsvd (i : Fin 3)
  | set (i : Fin 2)
  | clr (i : Fin 2)
  | lev (i : Fin 2)
  deriving DecidableEq, Repr

/-- The byte offset of a register (R105). -/
def Reg.offset : Reg → Nat
  | .fsel i => 0x00 + 4 * i
  | .rsvd i => if i = 0 then 0x18 else if i = 1 then 0x24 else 0x30
  | .set i  => 0x1C + 4 * i
  | .clr i  => 0x28 + 4 * i
  | .lev i  => 0x34 + 4 * i

/-- The fifteen registers in the order of R105's table. -/
def Reg.table : List Reg :=
  [.fsel 0, .fsel 1, .fsel 2, .fsel 3, .fsel 4, .fsel 5, .rsvd 0, .set 0, .set 1, .rsvd 1, .clr 0, .clr 1, .rsvd 2, .lev 0, .lev 1]

/-- The register at a byte offset, none outside the table (R105, R127). -/
def Reg.ofOffset (off : Nat) : Option Reg := Reg.table.find? fun r => r.offset == off

/-- The word a strobe of register index `i` carries, at the place of its 32 pins in LATCH (R109, R110: bit b is pin 32i + b). -/
def strobeMask (i : Nat) (v : Word) : BitVec 64 := v.setWidth 64 <<< (32 * i)

/-- A write of `v` to SET[i]: a bit that is 1 sets its latch bit, a bit that is 0 changes nothing (R109). -/
def strobeSet (i : Nat) (v : Word) (l : BitVec 64) : BitVec 64 := l ||| strobeMask i v

/-- A write of `v` to CLR[i]: a bit that is 1 clears its latch bit, a bit that is 0 changes nothing (R110). -/
def strobeClr (i : Nat) (v : Word) (l : BitVec 64) : BitVec 64 := l &&& ~~~(strobeMask i v)

/-- The word of latch bits of register index `i`: bit b is LATCH[32i + b]. -/
def latchWord (i : Nat) (l : BitVec 64) : Word := (l >>> (32 * i)).setWidth 32

/-- What a read of LEV[i] returns (R111, R115): the latch bits in `loopback`, a fresh draw in `external`. -/
def levelWord (i : Nat) (s : State) : Word × State :=
  match s.cfg.levelMode with
  | .loopback => (latchWord i s.latch, s)
  | .external => drawLevel s

/-- `RegRead(off)` (R12): the word read and the state after, for the reads R203 lists (FSEL and LEV); none for any other. -/
def busRead (off : Nat) (s : State) : Option (Word × State) :=
  match Reg.ofOffset off with
  | some (.fsel i) => some (s.fsel[i], s.logTxn (.read (s.base + off) s.fsel[i]))
  | some (.lev i)  => some ((levelWord i s).1, (levelWord i s).2.logTxn (.read (s.base + off) (levelWord i s).1))
  | some (.rsvd _) => none
  | some (.set _)  => none
  | some (.clr _)  => none
  | none           => none

/-- `RegWrite(off, v)` (R12): the state after, for the writes R203 lists (FSEL, SET and CLR); none for any other. -/
def busWrite (off : Nat) (v : Word) (s : State) : Option State :=
  match Reg.ofOffset off with
  | some (.fsel i) => some ((s.setFsel i v).logTxn (.write (s.base + off) v))
  | some (.set i)  => some ((s.setLatch (strobeSet i v s.latch)).logTxn (.write (s.base + off) v))
  | some (.clr i)  => some ((s.setLatch (strobeClr i v s.latch)).logTxn (.write (s.base + off) v))
  | some (.rsvd _) => none
  | some (.lev _)  => none
  | none           => none

/-! ## Raw access (R203, R607): not a request; what the model answers to an access made beside the requests -/

/-- A model-level access to the register block: its direction, byte offset and width in bytes. -/
inductive RawAccess where
  | read (off width : Nat)
  | write (off width : Nat) (v : Word)
  deriving DecidableEq, Repr

/-- Exactly one bit of the word is 1. -/
def isOneHot (v : Word) : Bool := (List.range 32).any fun b => v == 1#32 <<< b

/-- A write to a strobe register must carry a one-hot word; a write of any other word is never issued (R408, U5). -/
def strobeWordOk (off : Nat) (v : Word) : Bool :=
  match Reg.ofOffset off with
  | some (.set _) => isOneHot v
  | some (.clr _) => isOneHot v
  | _             => true

/-- An access that is not one of the transactions of R203 is refused, RAW_ACCESS (R607). DESIGN CHOICE [23]: one that is, is performed
while a mapping exists and refused while none does; a strobe write that is not one-hot is refused; and all this holds beside a stopped
block (FAULT not 0, or REFUSED set) as beside a running one, since R606 and R607 stop the block's own steps and say nothing of an access
made beside them. -/
def rawAccess (a : RawAccess) (s : State) : Answer :=
  match a with
  | .read off width =>
    if s.life = .mapped ∧ width = 4 then
      match busRead off s with
      | some (_, t) => .next t
      | none        => refuse s
    else refuse s
  | .write off width v =>
    if s.life = .mapped ∧ width = 4 ∧ strobeWordOk off v = true then
      match busWrite off v s with
      | some t => .next t
      | none   => refuse s
    else refuse s

end Sys2Proof.Machine
end

