-- ==== Sys2Proof/Machine/Lifecycle.lean ====
section
/-! DEFINITION. The two lifecycle requests of 42_lifecycle.md, BIND (R500) and UNBIND (R501). Neither issues a transaction. -/

namespace Sys2Proof.Machine

/-- BIND (R500): from UNBOUND and with the fixed base and size, the environment's draw decides between MAPPED and DEAD. -/
def execBind (base size : Nat) (s : State) : Answer :=
  if s.life ≠ .unbound then raise .lifecycle s
  else if zextPaddr s.cfg base ≠ s.cfg.gpioBase ∨ size ≠ s.cfg.blockSize.toNat then raise .bindArgs s
  else match drawGrant s with
    | (true, t)  => respond .ok 0 0 ((t.setMapping (zextPaddr s.cfg base) (wordOf size)).setLife .mapped)
    | (false, t) => respond .addressMapFailure 0 0 (t.setLife .dead)

/-- UNBIND (R501): release the mapping; with no mapping it responds UNMAPPED and has no effect. -/
def execUnbind (s : State) : Answer :=
  if s.life ≠ .mapped then respond .unmapped 0 0 s
  else respond .ok 0 0 (s.setLife .released)

end Sys2Proof.Machine
end

