-- ==== Sys2Proof/Machine/PinController.lean ====
section
/-! DEFINITION. The three Pin Controller requests of 41_pin_controller.md, each with its checks in the order of R450 (LIFE, operand
value, register range), and the pin-mode mux of 10_state.md R114. -/

namespace Sys2Proof.Machine

/-! ## CONFIGURE_MODE (R451) -/

/-- The first transaction of CONFIGURE_MODE: read FSEL[fsel_index(pin)] into TMP. -/
def configureRead (pin : Nat) (c : BitVec 3) (s : State) : Option (Rmw × State) :=
  match busRead (0x00 + 4 * fselIndex pin) s with
  | some (v, t) => some (⟨fselIndex pin, fselOffset pin, c, v, s.caller⟩, t)
  | none        => none

/-- The second transaction: the check for use after release, the write of the register with the field replaced in TMP, and the
response. `done` takes the request out of flight where it was left there (SERIALIZED false). DESIGN CHOICE [36]: the write and the response
are one step then too, so nothing of another caller comes between them; R211 orders transactions alone. -/
def configureWrite (r : Rmw) (done : State → State) (s : State) : Answer :=
  if s.life ≠ .mapped then raise .useAfterRelease s
  else match busWrite (0x00 + 4 * r.reg) (encodeFsel r.tmp r.off r.code) s with
    | some t => respond .ok 0 0 (done t)
    | none   => refuse s

/-- CONFIGURE_MODE (R451). With SERIALIZED true both transactions are this one step (R210) [14]; with SERIALIZED false the checks and
the read are one step, and the request stays in flight until its write is performed (R211) [13]. -/
def execConfigureMode (pin : Nat) (mode : Int) (s : State) : Answer :=
  if s.life ≠ .mapped then respond .unmapped 0 0 s
  else match modeCode mode with
    | none   => respond .invalidMode 0 0 s
    | some c =>
      if fselInRange pin then
        match configureRead pin c s with
        | some (r, t) => if t.cfg.serialized then configureWrite r id t else .next (t.defer r)
        | none        => refuse s
      else raise .pinRange s

/-- The write half of the k-th request in flight (R211, R712). -/
def finishRmw (k : Nat) (s : State) : Answer :=
  match s.inflight[k]? with
  | some r => configureWrite r (fun t => t.retire k) s
  | none   => .next s

/-! ## WRITE_PIN (R452) -/

/-- WRITE_PIN (R452): one one-hot write, to SET[i] for the value 1 and to CLR[i] for the value 0. -/
def execWritePin (pin : Nat) (value : Int) (s : State) : Answer :=
  if s.life ≠ .mapped then respond .unmapped 0 0 s
  else match pinValue value with
    | none   => respond .invalidValue 0 0 s
    | some b =>
      if bitInRange pin then
        match busWrite ((if b then 0x1C else 0x28) + 4 * bitReg pin) (onehot pin) s with
        | some t => respond .ok 0 0 t
        | none   => refuse s
      else raise .pinRange s

/-! ## READ_PIN (R453) -/

/-- READ_PIN (R453): one read of LEV[i]; D0 is the pin's bit of it. -/
def execReadPin (pin : Nat) (s : State) : Answer :=
  if s.life ≠ .mapped then respond .unmapped 0 0 s
  else if bitInRange pin then
    match busRead (0x34 + 4 * bitReg pin) s with
    | some (r, t) => respond .ok (if r.getLsbD (bitPos pin) then 1 else 0) 0 t
    | none        => refuse s
  else raise .pinRange s

/-! ## The pin-mode mux (R114) -/

/-- FSEL[i] by number; 0 where there is no such register. -/
def State.fselWord (s : State) (i : Nat) : Word := if h : i < 6 then s.fsel[i] else 0

/-- The mode code of a pin below 60 (R106, R406). -/
def State.modeOf (s : State) (p : Nat) : BitVec 3 := decodeFsel (s.fselWord (fselIndex p)) (fselOffset p)

/-- What drives a pin (R114). -/
inductive PinDrive where
  /-- Input: the block does not drive the pin. -/
  | released
  /-- Output: the block drives the pin with its latch bit. -/
  | driven (level : Bool)
  /-- Codes 2 to 7, and pins 60 to 63: no source says what drives the pin [25]. -/
  | notGiven
  deriving DecidableEq, Repr

/-- What drives pin `p` (R114). -/
def State.pinDrive (s : State) (p : Nat) : PinDrive :=
  if fselInRange p then
    if s.modeOf p = 0b000 then .released
    else if s.modeOf p = 0b001 then .driven (s.latch.getLsbD p)
    else .notGiven
  else .notGiven

end Sys2Proof.Machine
end

