-- ==== Sys2Proof/Machine/RegisterMap.lean ====
section
/-! DEFINITION. The three Register Map requests of 40_register_map.md: they complete with OK in every LIFE state and issue no
transaction (R400). -/

namespace Sys2Proof.Machine

/-- FSEL_INDEX (R402). -/
def execFselIndex (pin : Nat) (s : State) : Answer := respond .ok (wordOf (fselIndex pin)) 0 s

/-- FSEL_OFFSET (R403). -/
def execFselOffset (pin : Nat) (s : State) : Answer := respond .ok (wordOf (fselOffset pin)) 0 s

/-- BIT_INDEX (R404). -/
def execBitIndex (pin : Nat) (s : State) : Answer := respond .ok (wordOf (bitReg pin)) (wordOf (bitPos pin)) s

end Sys2Proof.Machine
end

