-- ==== Sys2Proof/Machine/Dispatch.lean ====
section
/-! DEFINITION. exec: one arm per request of spec/opcode_table.json. -/

namespace Sys2Proof.Machine

def exec (i : Instr) (s : State) : Host.Outcome State Fault Refusal :=
  match i with
  | .fselIndex pin => Sys2Proof.Machine.execFselIndex pin s
  | .fselOffset pin => Sys2Proof.Machine.execFselOffset pin s
  | .bitIndex pin => Sys2Proof.Machine.execBitIndex pin s
  | .configureMode pin mode => Sys2Proof.Machine.execConfigureMode pin mode s
  | .writePin pin value => Sys2Proof.Machine.execWritePin pin value s
  | .readPin pin => Sys2Proof.Machine.execReadPin pin s
  | .bind base size => Sys2Proof.Machine.execBind base size s
  | .unbind => Sys2Proof.Machine.execUnbind s

end Sys2Proof.Machine
end

