-- ==== Sys2Proof/Machine/Port.lean ====
section
/-! DEFINITION. The request port between requests: the host writes its next request into REQ (10_state.md R104, R120), and with
SERIALIZED false a request in flight performs its write (20_memory.md R211). -/

namespace Sys2Proof.Machine

/-- The requests caller `c` has still to issue. -/
def State.queueOf (s : State) (c : Nat) : List Request := s.queues[c]?.getD []

/-- Caller `c` may issue its next request: it has one, and none of its own is in flight (a caller waits for its response: DESIGN CHOICE [13]). -/
def State.mayIssue (s : State) (c : Nat) : Bool := !(s.queueOf c).isEmpty && !(s.inflight.any fun r => r.caller == c)

/-- The callers that may issue: none once the run has ended with ADDRESS_MAP_FAILURE (42_lifecycle.md R511) [16], and, with
SERIALIZED true, none while a request is in progress (R210). -/
def State.ready (s : State) : List Nat :=
  if s.life != .dead && (!s.cfg.serialized || s.inflight.isEmpty) then (List.range s.queues.length).filter s.mayIssue else []

/-- How many moves there are: one for each request in flight, and one for each caller that may issue (R211) [13]. -/
def State.moves (s : State) : Nat := s.inflight.length + s.ready.length

/-- Caller `c` writes its next request into REQ. -/
def issueRequest (c : Nat) (s : State) : Answer :=
  match s.queueOf c with
  | r :: rest => .next (s.issueNext c r rest)
  | []        => .next s

/-- A step with no request in REQ: one of the moves there are; the block waits where there is none (70_reset_and_hazards.md R702).
The order of the callers' transactions is the environment's choice (R211): move k is the write of the k-th request in flight, and
the moves after those are the callers that may issue, in the order of their index. -/
def portMove (s : State) : Answer :=
  if s.moves = 0 then .next s
  else match drawTurn s.moves s with
    | (k, t) => if k < t.inflight.length then finishRmw k t else issueRequest (t.ready.getD (k - t.inflight.length) 0) t

/-- The fault a block with FAULT not 0 stopped for (R605, R606). -/
def stopReason (c : BitVec 8) : Fault :=
  match FaultCode.ofCode c with
  | some f => .stopped f
  | none   => .stoppedUnnamed c

/-- The reason of a refusal (R607), read off the request that is still held: a reserved request is refused for its encoding, and
nothing else but a raw access is. DESIGN CHOICE [10]: where a raw access is refused while REQ holds a reserved request that has not
been performed yet, the reason named is the request's, since the reason of a refusal is no state (R124). -/
def refusalReason (s : State) : Refusal :=
  match s.req with
  | some r => match decode r with
    | .error .reservedOpcode => .reservedOpcode
    | .error .reservedBits   => .reservedBits
    | .ok _                  => .rawAccess
  | none   => .rawAccess

end Sys2Proof.Machine
end

