-- ==== Sys2Proof/Machine/Step.lean ====
section
/-! DEFINITION. One step of the machine: nothing after a fault or a refusal (R606, R607); else the request held in REQ, decoded and
performed or refused (R304); else a move of the request port. -/

namespace Sys2Proof.Machine

/-- Perform the request `r` held in REQ. -/
def performRequest (r : Request) (s : State) : Answer :=
  match decode r with
  | .ok i    => exec i s
  | .error _ => refuse s

/-- One step. -/
def step (s : State) : Host.Outcome State Fault Refusal :=
  if s.fault ≠ 0 then .fault (stopReason s.fault)
  else if s.refused then .refused (refusalReason s)
  else match s.req with
    | some r => performRequest r s
    | none   => portMove s

/-- The state with the request whose bits are `w` held in REQ, so that the next step performs it [11]. -/
def State.withFetchWord (s : State) (nbits w : Nat) : State := { s with req := some (requestOfBits nbits w) }

end Sys2Proof.Machine
end

