-- ==== Sys2Proof/Machine/Assembler.lean ====
section
/-! DEFINITION. The assembler of 30_encoding.md R308 and its pseudo-instructions (R309). -/

namespace Sys2Proof.Machine

/-- A line of assembler that stands for a request: the eight spellings of R308 and the four of R309. -/
inductive Asm where
  | fsidx (pin : Int)
  | fsoff (pin : Int)
  | bitidx (pin : Int)
  | cfg (pin mode : Int)
  | wr (pin value : Int)
  | rd (pin : Int)
  | bind (base size : Int)
  | unbind
  | input (pin : Int)
  | output (pin : Int)
  | set (pin : Int)
  | clr (pin : Int)
  deriving DecidableEq, Repr

/-- The expansion of a pseudo-instruction (R309); every other line stands for itself. -/
def Asm.expand : Asm → Asm
  | .input pin  => .cfg pin 0
  | .output pin => .cfg pin 1
  | .set pin    => .wr pin 1
  | .clr pin    => .wr pin 0
  | .fsidx pin  => .fsidx pin
  | .fsoff pin  => .fsoff pin
  | .bitidx pin => .bitidx pin
  | .cfg p m    => .cfg p m
  | .wr p v     => .wr p v
  | .rd pin     => .rd pin
  | .bind b s   => .bind b s
  | .unbind     => .unbind

/-- An integer as a 32-bit word, in two's complement (R308). -/
def asmWord (z : Int) : Word := BitVec.ofInt 32 z

/-- The request of a line (R308, R309): 0 in every ignored word. -/
def Asm.assemble : Asm → Request
  | .fsidx pin  => ⟨0x00000001, asmWord pin, 0⟩
  | .fsoff pin  => ⟨0x00000002, asmWord pin, 0⟩
  | .bitidx pin => ⟨0x00000003, asmWord pin, 0⟩
  | .cfg p m    => ⟨0x00000004, asmWord p, asmWord m⟩
  | .wr p v     => ⟨0x00000005, asmWord p, asmWord v⟩
  | .rd pin     => ⟨0x00000006, asmWord pin, 0⟩
  | .bind b s   => ⟨0x00000007, asmWord b, asmWord s⟩
  | .unbind     => ⟨0x00000008, 0, 0⟩
  | .input pin  => ⟨0x00000004, asmWord pin, asmWord 0⟩
  | .output pin => ⟨0x00000004, asmWord pin, asmWord 1⟩
  | .set pin    => ⟨0x00000005, asmWord pin, asmWord 1⟩
  | .clr pin    => ⟨0x00000005, asmWord pin, asmWord 0⟩

/-! ## Reading a line of text (R308) -/

/-- The value of a digit in a base up to 16, none for another character. -/
def asmDigit (base : Nat) (c : Char) : Option Nat :=
  let n := c.toNat
  let v := if 0x30 ≤ n ∧ n ≤ 0x39 then n - 0x30 else if 0x61 ≤ n ∧ n ≤ 0x66 then n - 0x57
    else if 0x41 ≤ n ∧ n ≤ 0x46 then n - 0x37 else 16
  if v < base then some v else none

/-- A run of digits, most significant first, after the value `acc` of the digits before it. -/
def asmDigits (base : Nat) (acc : Nat) : List Char → Option Nat
  | []      => some acc
  | c :: cs => match asmDigit base c with
    | some d => asmDigits base (acc * base + d) cs
    | none   => none

/-- At least one digit. -/
def asmNat (base : Nat) (cs : List Char) : Option Nat := if cs.isEmpty then none else asmDigits base 0 cs

/-- An integer: decimal, optionally negative, or hexadecimal after `0x` (R308). -/
def asmInt (cs : List Char) : Option Int :=
  match cs with
  | '0' :: 'x' :: hs => (asmNat 16 hs).map Int.ofNat
  | '-' :: ds        => (asmNat 10 ds).map fun n => -Int.ofNat n
  | ds               => (asmNat 10 ds).map Int.ofNat

/-- An integer that a 32-bit word holds, read signed or unsigned; a wider one is no operand: DESIGN CHOICE [22]. -/
def asmOperand (cs : List Char) : Option Int :=
  match asmInt cs with
  | some z => if -2 ^ 31 ≤ z ∧ z < 2 ^ 32 then some z else none
  | none   => none

/-- A pin, base or size: an integer that is not negative (R302). -/
def asmUnsigned (cs : List Char) : Option Int :=
  match asmOperand cs with
  | some z => if 0 ≤ z then some z else none
  | none   => none

/-- A mode: an integer, or `in` (0), or `out` (1) (R308). -/
def asmMode (cs : List Char) : Option Int :=
  if cs = ['i', 'n'] then some 0 else if cs = ['o', 'u', 't'] then some 1 else asmOperand cs

/-- White space between the parts of a line. -/
def asmIsSpace (c : Char) : Bool := c == ' ' || c == '\t'

/-- The characters without the white space at either end. -/
def asmTrim (cs : List Char) : List Char :=
  ((cs.dropWhile asmIsSpace).reverse.dropWhile asmIsSpace).reverse

/-- The parts between commas. -/
def asmSplit (cs : List Char) : List (List Char) :=
  cs.foldr (fun c acc => if c == ',' then [] :: acc else match acc with
    | []      => [[c]]
    | p :: ps => (c :: p) :: ps) [[]]

/-- A line's request, from its mnemonic and its operands (R308, R309). -/
def asmLine (mnemonic : List Char) (ops : List (List Char)) : Option Asm :=
  let u1 (f : Int → Asm) : Option Asm := match ops with
    | [a] => (asmUnsigned a).map f
    | _   => none
  let two (f : Int → Int → Asm) (second : List Char → Option Int) : Option Asm := match ops with
    | [a, b] => match asmUnsigned a, second b with
      | some x, some y => some (f x y)
      | _, _           => none
    | _      => none
  if mnemonic = ['f', 's', 'i', 'd', 'x'] then u1 .fsidx
  else if mnemonic = ['f', 's', 'o', 'f', 'f'] then u1 .fsoff
  else if mnemonic = ['b', 'i', 't', 'i', 'd', 'x'] then u1 .bitidx
  else if mnemonic = ['c', 'f', 'g'] then two .cfg asmMode
  else if mnemonic = ['w', 'r'] then two .wr asmOperand
  else if mnemonic = ['r', 'd'] then u1 .rd
  else if mnemonic = ['b', 'i', 'n', 'd'] then two .bind asmUnsigned
  else if mnemonic = ['u', 'n', 'b', 'i', 'n', 'd'] then (if ops = [] then some .unbind else none)
  else if mnemonic = ['i', 'n', 'p', 'u', 't'] then u1 .input
  else if mnemonic = ['o', 'u', 't', 'p', 'u', 't'] then u1 .output
  else if mnemonic = ['s', 'e', 't'] then u1 .set
  else if mnemonic = ['c', 'l', 'r'] then u1 .clr
  else none

/-- A line read: `some none` for a line that holds no request (blank, or a comment alone), `none` for one that is no assembler. -/
def asmParse (line : List Char) : Option (Option Asm) :=
  let body := asmTrim (line.takeWhile (· != ';'))
  if body.isEmpty then some none
  else
    let rest := asmTrim (body.dropWhile fun c => !asmIsSpace c)
    let ops := if rest.isEmpty then [] else (asmSplit rest).map asmTrim
    (asmLine (body.takeWhile fun c => !asmIsSpace c) ops).map some

end Sys2Proof.Machine
end

