-- ==== Sys2Proof/Machine/HostSide.lean ====
section
/-! DEFINITION. The host's two collaborators (42_lifecycle.md R510 to R512): what requests they issue. The text transport itself is
out of scope (00_scope.md R7 b). -/

namespace Sys2Proof.Machine

/-- The request the host issues for an instruction: none where a number does not fit its request word, so that none is wrapped. DESIGN
CHOICE [32] [33]: D7 leaves a wider host integer outside the model, and says nothing of what is issued. -/
def hostRequest (i : Instr) : Option Request := if i.wf then some (encode i) else none

/-- The startup collaborator's requests (R510, R703): BIND with the fixed base and size, then CONFIGURE_MODE for each pin of the
application's layout. DESIGN CHOICE [33]: an entry whose pin or mode does not fit its request word is left out; where GPIO_BASE does not
fit (R9 allows it from 2^32 on when PADDR_W is above 32), no BIND can be issued, so none responds OK and nothing is issued at all. -/
def startupProgram (c : Config) (layout : List (Nat × Int)) : List Request :=
  match hostRequest (.bind c.gpioBase c.blockSize.toNat) with
  | some r => r :: layout.filterMap fun pm => hostRequest (.configureMode pm.1 pm.2)
  | none   => []

/-- One move of the application's drive to a safe state: R510 names WRITE_PIN and CONFIGURE_MODE for it, and no other request. -/
inductive SafeDrive where
  | write (pin : Nat) (value : Int)
  | configure (pin : Nat) (mode : Int)
  deriving DecidableEq, Repr

/-- The request of a move. -/
def safeDriveInstr : SafeDrive → Instr
  | .write pin value    => .writePin pin value
  | .configure pin mode => .configureMode pin mode

/-- The shutdown collaborator's requests (R510, R703): the application's drive to a safe state, by WRITE_PIN and CONFIGURE_MODE,
then UNBIND once. DESIGN CHOICE [33]: a move whose pin, value or mode does not fit its request word is left out. -/
def shutdownProgram (safe : List SafeDrive) : List Request :=
  (safe.filterMap fun d => hostRequest (safeDriveInstr d)) ++ [encode .unbind]

/-- The Attribute Bridge on a read of `gpio<N>` (R512), given what its parse of the name found: a failed parse is reported to its
caller and issues no request [30]; nor does a pin that no request word holds: DESIGN CHOICE [32]. -/
def bridgeRead (pin : Option Nat) : Option Request :=
  match pin with
  | some p => hostRequest (.readPin p)
  | none   => none

/-- The Attribute Bridge on a write to `gpio<N>` (R512), given what its parses of the name and of the text found: a failed parse
issues no request and is never taken as the value 0 [30]; nor does a pin or value that no request word holds: DESIGN CHOICE [32]. -/
def bridgeWrite (pin : Option Nat) (value : Option Int) : Option Request :=
  match pin, value with
  | some p, some v => hostRequest (.writePin p v)
  | some _, none   => none
  | none, _        => none

/-- The text for the boolean result of a READ_PIN that responded OK, its D0 (R512, S8): "1" and a line feed, or "0" and a line feed. -/
def bridgeText (d0 : Word) : List Byte := if d0 = 1 then [0x31, 0x0A] else [0x30, 0x0A]

/-- What the bridge shows for a READ_PIN's response: the text of its result where it is OK. DESIGN CHOICE [35]: R512 and S8 give a text
for the boolean result alone, so an error has none, and is never shown as the level 0. -/
def bridgeReply (r : Rsp) : Option (List Byte) := if r.status = Status.ok.code then some (bridgeText r.d0) else none

/-- One caller more, with these requests to issue in order (R104) [11]. -/
def State.withProgram (s : State) (rs : List Request) : State := { s with queues := s.queues ++ [rs] }

end Sys2Proof.Machine
end

