-- ==== Sys2Proof/Safety.lean ====
section
/-! DEFINITION. What the claims are stated in: a good end of a run (42_lifecycle.md R514), what a request leaves unchanged, and the
invariant every step keeps. -/

namespace Sys2Proof.Machine

/-- No fault and no refusal is recorded (R606, R607). -/
def State.Running (s : State) : Prop := s.fault = 0 ∧ s.refused = false

/-- A good end of a run (R514): the host has issued its last request (after ADDRESS_MAP_FAILURE it issues none, R511), the request
has completed, and no fault or refusal is recorded. DESIGN CHOICE [34]: a state in which no request has been issued yet and none is
left to issue (reset, with no program placed) counts as one too; R514 speaks of a last request alone. So is it [34] that no earlier request may
still be in flight when the last one issued has responded (SERIALIZED false). -/
def State.GoodEnd (s : State) : Prop :=
  s.Running ∧ s.req = none ∧ s.inflight = [] ∧ ((∀ q ∈ s.queues, q = []) ∨ s.life = .dead)

/-- `t` is `s` after a response that wrote `r` and did nothing else: RSP holds `r`, the request is no longer pending, `pc` is one up. -/
def State.OnlyResponds (s t : State) (r : Rsp) : Prop :=
  t = { s with rsp := r, pc := s.pc + 1, req := none }

/-- One of the four kinds of transaction of R203, in the block at `base`: a read of FSEL[i] or LEV[i], a write of FSEL[i], or a
one-hot write (R408) of SET[i] or CLR[i]. -/
def Txn.Legal (base : Nat) : Txn → Prop
  | .read a _  => (∃ i < 6, a = base + (0x00 + 4 * i)) ∨ (∃ i < 2, a = base + (0x34 + 4 * i))
  | .write a v => (∃ i < 6, a = base + (0x00 + 4 * i))
      ∨ ((∃ i < 2, a = base + (0x1C + 4 * i) ∨ a = base + (0x28 + 4 * i)) ∧ ∃ b < 32, v = 1#32 <<< b)

/-- The address a transaction is issued to. -/
def Txn.addr : Txn → Nat
  | .read a _  => a
  | .write a _ => a

/-- A read-modify-write as R451 makes it: a register index below 6, one of the ten field offsets, the code of Input or Output. -/
def Rmw.Made (r : Rmw) : Prop := r.reg < 6 ∧ (∃ k < 10, r.off = 3 * k) ∧ (r.code = 0b000 ∨ r.code = 0b001)

/-- What every state of a run satisfies. -/
structure State.Inv (s : State) : Prop where
  /-- The parameters meet the constraints of R9. -/
  params : s.cfg.wf = true
  /-- BASE and SIZE are the fixed constants while a mapping exists (R102, R500). -/
  handle : s.life = .mapped → s.base = s.cfg.gpioBase ∧ s.size = s.cfg.blockSize
  /-- Every transaction issued is one of those of R203, inside the block (R202). -/
  bus : ∀ x ∈ s.bus, x.Legal s.cfg.gpioBase
  /-- With SERIALIZED true no request is left in flight (R125). -/
  serial : s.cfg.serialized = true → s.inflight = []
  /-- Every request in flight was made by CONFIGURE_MODE (R451). -/
  flight : ∀ r ∈ s.inflight, r.Made
  /-- No request is in flight before a mapping exists, nor after one was refused (R450, R502). -/
  before : s.life = .unbound ∨ s.life = .dead → s.inflight = []
  /-- A caller has at most one request in progress [13]: its write in flight, or the request in REQ. -/
  callers : (s.inflight.map Rmw.caller).Nodup
  /-- The caller whose request is in REQ has none in flight. -/
  holder : s.req ≠ none → s.caller ∉ s.inflight.map Rmw.caller
  /-- FAULT holds a code R605 names. -/
  faults : s.fault.toNat ≤ 4
  /-- RSP.STATUS holds a status R306 names. -/
  status : s.rsp.status.toNat ≤ 4
  /-- EVT spans the region from 0x3C to BLOCK_SIZE - 1 (R105, R112). -/
  evtSpan : s.evt.length = (s.cfg.blockSize.toNat - 0x3C) / 4

end Sys2Proof.Machine
end

