-- ==== Sys2Proof/Certificates/Slice0/Obligations.lean ====
section
/-! DEFINITION. The statements for the provers, each formalising rules of spec/ (see OBLIGATIONS.json for the rules and the quotes). -/

open Sys2Proof Sys2Proof.Machine

/-! ## Encoding -/

/-- R305 (with the operand readings of R302): every value of A and B decodes, under each of the eight W0. -/
def Obligations.EveryOperandValueDecodes : Prop :=
  ∀ a b : Word,
    decode ⟨0x00000001, a, b⟩ = .ok (.fselIndex a.toNat)
    ∧ decode ⟨0x00000002, a, b⟩ = .ok (.fselOffset a.toNat)
    ∧ decode ⟨0x00000003, a, b⟩ = .ok (.bitIndex a.toNat)
    ∧ decode ⟨0x00000004, a, b⟩ = .ok (.configureMode a.toNat b.toInt)
    ∧ decode ⟨0x00000005, a, b⟩ = .ok (.writePin a.toNat b.toInt)
    ∧ decode ⟨0x00000006, a, b⟩ = .ok (.readPin a.toNat)
    ∧ decode ⟨0x00000007, a, b⟩ = .ok (.bind a.toNat b.toNat)
    ∧ decode ⟨0x00000008, a, b⟩ = .ok .unbind

/-- R304: a request whose W0[31:4] is not 0, or whose OP is 0x0 or 0x9 to 0xF, is refused in one step that sets REFUSED and changes
nothing else (no transaction); every other request decodes. -/
def Obligations.ReservedRequestsAreRefused : Prop :=
  ∀ r : Request,
    (r.w0.toNat / 16 ≠ 0 ∨ r.w0.toNat % 16 = 0 ∨ 9 ≤ r.w0.toNat % 16 →
      ∀ s : State, s.Running → s.req = some r → step s = .next { s with refused := true })
    ∧ (¬ (r.w0.toNat / 16 ≠ 0 ∨ r.w0.toNat % 16 = 0 ∨ 9 ≤ r.w0.toNat % 16) → ∃ i, decode r = .ok i)

/-- R607: a block that has refused takes no further step, whatever was refused and whatever REQ holds: a step of it is refused, for
RESERVED_BITS or RESERVED_OPCODE where REQ holds a request reserved for that, else for RAW_ACCESS; the second clause says it of the step
that refuses a reserved request. Which name is given where two reasons could be is the model's (log entry 10). -/
def Obligations.RefusedBlockStopsByReason : Prop :=
  (∀ s : State, s.fault = 0 → s.refused = true →
    (∀ r, s.req = some r → (r.w0.toNat / 16 ≠ 0 → step s = .refused .reservedBits)
      ∧ (r.w0.toNat / 16 = 0 → r.w0.toNat % 16 = 0 ∨ 9 ≤ r.w0.toNat % 16 → step s = .refused .reservedOpcode)
      ∧ (r.w0.toNat / 16 = 0 → r.w0.toNat % 16 ≠ 0 → r.w0.toNat % 16 < 9 → step s = .refused .rawAccess))
    ∧ (s.req = none → step s = .refused .rawAccess))
  ∧ (∀ (s t : State) (r : Request), s.Running → s.req = some r → step s = .next t → t.refused = true →
    step t = .refused (if r.w0.toNat / 16 ≠ 0 then .reservedBits else .reservedOpcode))

/-- Decoding the words of any well-formed instruction gives it back, every operand at every value its word admits (R302, R303). -/
def Obligations.DecodeInvertsEncode : Prop :=
  ∀ i : Instr, i.wf = true → decode (encode i) = .ok i

/-- Encoding a decoded request gives back W0 and every operand word the operation reads (R302, R303). -/
def Obligations.EncodeInvertsDecode : Prop :=
  ∀ (r : Request) (i : Instr), decode r = .ok i →
    i.wf = true ∧ (encode i).w0 = r.w0
    ∧ (i ≠ .unbind → (encode i).w1 = r.w1)
    ∧ ((∃ p m, i = .configureMode p m) ∨ (∃ p v, i = .writePin p v) ∨ (∃ b z, i = .bind b z) → (encode i).w2 = r.w2)

/-! ## One step -/

/-- The request held in REQ is decoded and performed (R120, R303): the step is exec of it, with nothing around; what the request's end
does to REQ and `pc` is in exec (log entries 11 and 12). -/
def Obligations.StepPerformsTheRequestHeld : Prop :=
  ∀ (s : State) (r : Request) (i : Instr), s.Running → s.req = some r → decode r = .ok i → step s = exec i s

/-- R606: a block that has recorded a fault takes no further step; it stops under that fault's name. That it does so where REFUSED is set
as well, which no run from reset reaches, is the model's choice (log entry 29). -/
def Obligations.FaultedBlockStops : Prop :=
  ∀ (s : State) (f : FaultCode), s.fault = f.code → step s = .fault (.stopped f)

/-- R514, R511, R702: at a good end of a run (among them the wait for a first request, and after ADDRESS_MAP_FAILURE) a step changes
nothing. That waiting is a step that changes nothing, and that a state before any request counts as such an end, is the model's choice (log
entries 11 and 34). -/
def Obligations.EndedRunWaits : Prop :=
  ∀ s : State, s.GoodEnd → step s = .next s

/-- R104, R210: with no request in progress and one caller that has requests left, its next request, and no other change, comes into REQ;
after ADDRESS_MAP_FAILURE it does not (R511). That issuing is a step of its own, and that callers have an index, is the model's choice (log
entries 11, 13 and 16). -/
def Obligations.HostIssuesRequestsInOrder : Prop :=
  ∀ (s : State) (c : Nat) (r : Request) (rest : List Request),
    s.Running → s.req = none → s.inflight = [] → s.queues[c]? = some (r :: rest) → (∀ d q, s.queues[d]? = some q → d ≠ c → q = []) →
    step s = if s.life = .dead then .next s else .next { s with req := some r, caller := c, queues := s.queues.set c rest }

/-- R211, R613: each move that is admitted is taken under some choice of the environment: the write of any request in flight, and the next
request of any caller that has one and waits for no response (with SERIALIZED true, while nothing is in progress, R210). How a choice
names a move is the model's (log entry 13). -/
def Obligations.EveryAdmittedMoveIsTaken : Prop :=
  (∀ (s : State) (k : Nat) (ts : List Nat), s.Running → s.req = none → 1 < s.moves → k < s.inflight.length → s.env.turns = k :: ts →
    step s = finishRmw k { s with env := { s.env with turns := ts, drawn := s.env.drawn + 1 } })
  ∧ (∀ (s : State) (c : Nat) (r : Request) (rest : List Request),
    s.Running → s.req = none → s.life ≠ .dead → (s.cfg.serialized = true → s.inflight = []) → (∀ x ∈ s.inflight, x.caller ≠ c) →
    s.queues[c]? = some (r :: rest) →
    (s.moves = 1 → step s = .next { s with req := some r, caller := c, queues := s.queues.set c rest })
    ∧ (1 < s.moves → ∃ k, ∀ ts, step { s with env := { s.env with turns := k :: ts } }
        = .next { s with req := some r, caller := c, queues := s.queues.set c rest,
                         env := { s.env with turns := ts, drawn := s.env.drawn + 1 } }))

/-- R104, R210, R211, R511: a caller's sequence changes only by its own next request coming into REQ, in order, and only while REQ is free,
none of the caller's own requests is in flight, no request at all is with SERIALIZED true, and LIFE is not DEAD; nothing else changes then
(callers: log entry 13; the host after ADDRESS_MAP_FAILURE: log entry 16). -/
def Obligations.RequestsAreIssuedOnlyWhenAdmitted : Prop :=
  ∀ s t : State, step s = .next t → ∀ c, t.queueOf c = s.queueOf c
    ∨ (∃ r, s.queueOf c = r :: t.queueOf c
        ∧ t = { s with req := some r, caller := c, queues := t.queues, env := t.env }
        ∧ s.req = none ∧ (∀ x ∈ s.inflight, x.caller ≠ c) ∧ (s.cfg.serialized = true → s.inflight = []) ∧ s.life ≠ .dead)

/-- Every request answers a next state, whatever its operands and the state: an error is a response and a fault is recorded in FAULT
(R601, R606); none stops the machine within its own step. That a faulting request answers a next state is log entry 9; that exec answers
for operands no request word holds, which no step performs, is the model's choice (log entry 28). -/
def Obligations.EveryRequestAnswersANextState : Prop :=
  ∀ (i : Instr) (s : State), ∃ t, exec i s = .next t

/-! ## Register Map requests -/

/-- R402: FSEL_INDEX. -/
def Obligations.FselIndexAnswersTheRegisterIndex : Prop :=
  ∀ (s : State) (a b : Word),
    decode ⟨0x00000001, a, b⟩ = .ok (.fselIndex a.toNat)
    ∧ ∃ t, exec (.fselIndex a.toNat) s = .next t ∧ s.OnlyResponds t t.rsp
      ∧ t.rsp.status = 0 ∧ t.rsp.d0.toNat = a.toNat / 10 ∧ t.rsp.d0.toNat ≤ 429496729 ∧ t.rsp.d1 = 0

/-- R403: FSEL_OFFSET. -/
def Obligations.FselOffsetAnswersTheFieldOffset : Prop :=
  ∀ (s : State) (a b : Word),
    decode ⟨0x00000002, a, b⟩ = .ok (.fselOffset a.toNat)
    ∧ ∃ t, exec (.fselOffset a.toNat) s = .next t ∧ s.OnlyResponds t t.rsp
      ∧ t.rsp.status = 0 ∧ t.rsp.d0.toNat = 3 * (a.toNat - 10 * (a.toNat / 10)) ∧ (∃ k < 10, t.rsp.d0.toNat = 3 * k) ∧ t.rsp.d1 = 0

/-- R404: BIT_INDEX. -/
def Obligations.BitIndexAnswersRegisterAndBit : Prop :=
  ∀ (s : State) (a b : Word),
    decode ⟨0x00000003, a, b⟩ = .ok (.bitIndex a.toNat)
    ∧ ∃ t, exec (.bitIndex a.toNat) s = .next t ∧ s.OnlyResponds t t.rsp
      ∧ t.rsp.status = 0 ∧ t.rsp.d0.toNat = a.toNat / 32 ∧ t.rsp.d0.toNat ≤ 134217727
      ∧ t.rsp.d1.toNat = a.toNat % 32 ∧ t.rsp.d1.toNat ≤ 31

/-- R405, R401, R406: the field of each pin lies in bits 29 to 0; it takes the code, bit by bit; every other bit of the word is kept, 31:30
included; and the decoder reads the code back. -/
def Obligations.ModeFieldEncoderReplacesOneField : Prop :=
  ∀ (w : Word) (p : Nat) (c : BitVec 3),
    fselOffset p + 2 ≤ 29
    ∧ (∀ k < 3, (encodeFsel w (fselOffset p) c).getLsbD (fselOffset p + k) = c.getLsbD k)
    ∧ (∀ b < 32, b < fselOffset p ∨ fselOffset p + 2 < b → (encodeFsel w (fselOffset p) c).getLsbD b = w.getLsbD b)
    ∧ decodeFsel (encodeFsel w (fselOffset p) c) (fselOffset p) = c

/-! ## Pin Controller requests -/

/-- R450: the checks of the three Pin Controller requests, in order: LIFE, operand value, register range. A request that fails one
changes RSP alone, or FAULT alone for the third (a request that responds is also counted by `pc` and leaves REQ, R104, R120). -/
def Obligations.PinControllerChecksInOrder : Prop :=
  ∀ (s : State) (pin : Nat) (z : Int),
    (s.life ≠ .mapped →
      (∃ t, exec (.configureMode pin z) s = .next t ∧ s.OnlyResponds t ⟨1, 0, 0⟩)
      ∧ (∃ t, exec (.writePin pin z) s = .next t ∧ s.OnlyResponds t ⟨1, 0, 0⟩)
      ∧ (∃ t, exec (.readPin pin) s = .next t ∧ s.OnlyResponds t ⟨1, 0, 0⟩))
    ∧ (s.life = .mapped → z ≠ 0 → z ≠ 1 →
      (∃ t, exec (.configureMode pin z) s = .next t ∧ s.OnlyResponds t ⟨2, 0, 0⟩)
      ∧ (∃ t, exec (.writePin pin z) s = .next t ∧ s.OnlyResponds t ⟨3, 0, 0⟩))
    ∧ (s.life = .mapped → s.fault = 0 →
      ((z = 0 ∨ z = 1) → 60 ≤ pin → exec (.configureMode pin z) s = .next { s with fault := 1 })
      ∧ ((z = 0 ∨ z = 1) → 64 ≤ pin → exec (.writePin pin z) s = .next { s with fault := 1 })
      ∧ (64 ≤ pin → exec (.readPin pin) s = .next { s with fault := 1 }))

/-- R451, R210 (SERIALIZED true): CONFIGURE_MODE reads FSEL[pin/10], writes it back with the pin's field replaced, and responds OK;
nothing else changes. -/
def Obligations.ConfigureModeRewritesOneRegister : Prop :=
  ∀ (s : State) (pin : Nat) (mode : Int), s.life = .mapped → s.cfg.serialized = true → pin < 60 → mode = 0 ∨ mode = 1 →
    let i := pin / 10
    let v := encodeFsel (s.fselWord i) (3 * (pin % 10)) (if mode = 0 then 0b000 else 0b001)
    ∃ t, exec (.configureMode pin mode) s = .next t
      ∧ t = { s with rsp := ⟨0, 0, 0⟩, pc := s.pc + 1, req := none, fsel := t.fsel,
                     bus := s.bus ++ [.read (s.base + 4 * i) (s.fselWord i), .write (s.base + 4 * i) v] }
      ∧ ∀ j < 6, t.fselWord j = if j = i then v else s.fselWord j

/-- R106, R451: after CONFIGURE_MODE (SERIALIZED true) the pin's mode is the one asked for, every other pin's mode and bits 31:30 of every
register are as before. -/
def Obligations.ConfigureModeSetsOnlyThePinsMode : Prop :=
  ∀ (s : State) (pin : Nat) (mode : Int), s.life = .mapped → s.cfg.serialized = true → pin < 60 → mode = 0 ∨ mode = 1 →
    ∃ t, exec (.configureMode pin mode) s = .next t
      ∧ t.modeOf pin = (if mode = 0 then 0b000 else 0b001)
      ∧ (∀ q < 60, q ≠ pin → t.modeOf q = s.modeOf q)
      ∧ (∀ j < 6, (t.fselWord j).getLsbD 30 = (s.fselWord j).getLsbD 30 ∧ (t.fselWord j).getLsbD 31 = (s.fselWord j).getLsbD 31)

/-- R114, R713: the pin configured Output is at once driven with its latch bit, the pin configured Input is no longer driven, and every
other pin is driven as before. -/
def Obligations.ConfiguredPinIsDrivenAtOnce : Prop :=
  ∀ (s : State) (pin : Nat) (mode : Int), s.life = .mapped → s.cfg.serialized = true → pin < 60 → mode = 0 ∨ mode = 1 →
    ∃ t, exec (.configureMode pin mode) s = .next t
      ∧ t.pinDrive pin = (if mode = 0 then .released else .driven (s.latch.getLsbD pin))
      ∧ ∀ q < 64, q ≠ pin → t.pinDrive q = s.pinDrive q

/-- R211, R451 (SERIALIZED false): CONFIGURE_MODE's first step performs its read and leaves the request in flight with the value read;
nothing else changes but that REQ is free for another caller. That REQ is free in the gap, and that the request is kept in a list with its
caller's index, is the model's choice (log entries 12 and 13). -/
def Obligations.UnserializedConfigureReadsFirst : Prop :=
  ∀ (s : State) (pin : Nat) (mode : Int), s.life = .mapped → s.cfg.serialized = false → pin < 60 → mode = 0 ∨ mode = 1 →
    exec (.configureMode pin mode) s = .next { s with
      req := none
      inflight := s.inflight ++ [⟨pin / 10, 3 * (pin % 10), if mode = 0 then 0b000 else 0b001, s.fselWord (pin / 10), s.caller⟩]
      bus := s.bus ++ [.read (s.base + 4 * (pin / 10)) (s.fselWord (pin / 10))] }

/-- R211, R451: the write of any of the requests in flight, whatever other moves there are: the register of that request takes the word
made from the value it read, that request responds OK and leaves flight, the others stay in flight in order, and nothing else changes. The
premise on `e` says that this move is the one taken: the only one, or the one the environment chooses (the list of requests in flight, and
how a choice names one: log entry 13). That the write and the response are one step is the model's choice (log entry 36). -/
def Obligations.InFlightConfigureWritesLater : Prop :=
  ∀ (s : State) (k : Nat) (r : Rmw) (e : Env),
    s.Running → s.req = none → s.inflight[k]? = some r → r.reg < 6 → s.life = .mapped →
    (s.moves = 1 ∧ e = s.env)
      ∨ (1 < s.moves ∧ ∃ ts, s.env.turns = k :: ts ∧ e = { s.env with turns := ts, drawn := s.env.drawn + 1 }) →
    ∃ t, step s = .next t
      ∧ t = { s with rsp := ⟨0, 0, 0⟩, pc := s.pc + 1, req := none, inflight := s.inflight.eraseIdx k, fsel := t.fsel, env := e,
                     bus := s.bus ++ [.write (s.base + 4 * r.reg) (encodeFsel r.tmp r.off r.code)] }
      ∧ ∀ j < 6, t.fselWord j = if j = r.reg then encodeFsel r.tmp r.off r.code else s.fselWord j

/-- R712, R451: the write of any of the requests in flight, once the mapping is released, raises USE_AFTER_RELEASE and writes no register:
FAULT alone changes (and the environment's side, where it chose the move, as `e` says); and where no caller has a request left, the next
step does so whatever is chosen. That requests in flight stand in a list is the model's (log entry 13). -/
def Obligations.WriteAfterReleaseFaults : Prop :=
  ∀ s : State, s.Running → s.req = none → s.life ≠ .mapped →
    (∀ (k : Nat) (e : Env), k < s.inflight.length →
      (s.moves = 1 ∧ e = s.env)
        ∨ (1 < s.moves ∧ ∃ ts, s.env.turns = k :: ts ∧ e = { s.env with turns := ts, drawn := s.env.drawn + 1 }) →
      step s = .next { s with fault := 4, env := e })
    ∧ (s.inflight ≠ [] → (∀ q ∈ s.queues, q = []) → ∃ t, step s = .next t ∧ t = { s with fault := 4, env := t.env })

/-- R211, R710: the lost update. Two CONFIGURE_MODE requests for different pins of one register, both reads before both writes: the
first write's field is lost, the second's stands (the list of requests in flight: log entry 13; a write and its response in one step: log
entry 36). -/
def Obligations.InterleavedConfiguresLoseAnUpdate : Prop :=
  ∀ (s : State) (p q : Nat) (m n : Int),
    s.life = .mapped → s.cfg.serialized = false → s.inflight = [] → p < 60 → p / 10 = q / 10 → p ≠ q →
    (m = 0 ∨ m = 1) → (n = 0 ∨ n = 1) →
    ∃ s1 s2 s3 s4, exec (.configureMode p m) s = .next s1 ∧ exec (.configureMode q n) s1 = .next s2
      ∧ finishRmw 0 s2 = .next s3 ∧ finishRmw 0 s3 = .next s4
      ∧ s4.inflight = [] ∧ s4.modeOf p = s.modeOf p ∧ s4.modeOf q = (if n = 0 then 0b000 else 0b001)

/-- R211, V9: two callers that each write one pin: the latch ends at the value written last, and which write is last is the environment's
choice (callers, and how a choice names one: log entry 13; a write and its response in one step: log entry 36). -/
def Obligations.WritersOfOnePinRace : Prop :=
  ∀ (s : State) (p : Nat) (v w : Int) (k : Nat) (ts : List Nat),
    s.Running → s.req = none → s.life = .mapped → s.cfg.serialized = false → s.inflight = [] → p < 64 →
    (v = 0 ∨ v = 1) → (w = 0 ∨ w = 1) →
    s.queues = [[encode (.writePin p v)], [encode (.writePin p w)]] → k < 2 → s.env.turns = k :: ts →
    ∃ s1 s2 s3 s4, step s = .next s1 ∧ step s1 = .next s2 ∧ step s2 = .next s3 ∧ step s3 = .next s4
      ∧ s4.pc = s.pc + 2 ∧ s4.queues = [[], []] ∧ s4.req = none
      ∧ s4.latch.getLsbD p = decide ((if k = 0 then w else v) = 1)

/-- R452: WRITE_PIN issues one one-hot write, to SET for the value 1 and to CLR for the value 0; LATCH[pin] takes the value and no other
latch bit changes; it responds OK and nothing else changes. That the write and the response are one step with SERIALIZED false as well is the
model's choice (log entry 36). -/
def Obligations.WritePinSetsOneLatchBit : Prop :=
  ∀ (s : State) (pin : Nat) (value : Int), s.life = .mapped → pin < 64 → value = 0 ∨ value = 1 →
    ∃ t, exec (.writePin pin value) s = .next t
      ∧ t = { s with rsp := ⟨0, 0, 0⟩, pc := s.pc + 1, req := none, latch := t.latch,
                     bus := s.bus ++ [.write (s.base + ((if value = 1 then 0x1C else 0x28) + 4 * (pin / 32))) (1#32 <<< (pin % 32))] }
      ∧ ∀ p < 64, t.latch.getLsbD p = if p = pin then decide (value = 1) else s.latch.getLsbD p

/-- R453, R115 in `loopback`: READ_PIN reads one LEV word, the latch bits of its 32 pins, and responds with the pin's bit, whatever the
pin's mode; nothing else changes. That the read and the response are one step with SERIALIZED false as well is the model's choice (log
entry 36). -/
def Obligations.ReadPinReturnsTheLatchInLoopback : Prop :=
  ∀ (s : State) (pin : Nat), s.life = .mapped → s.cfg.levelMode = .loopback → pin < 64 →
    ∃ (t : State) (w : Word), exec (.readPin pin) s = .next t
      ∧ t = { s with rsp := ⟨0, if s.latch.getLsbD pin then 1 else 0, 0⟩, pc := s.pc + 1, req := none,
                     bus := s.bus ++ [.read (s.base + (0x34 + 4 * (pin / 32))) w] }
      ∧ ∀ b < 32, w.getLsbD b = s.latch.getLsbD (32 * (pin / 32) + b)

/-- R453, R115 in `external`: READ_PIN reads one LEV word, a fresh draw, and responds with the pin's bit of it; nothing else changes. The
word is the environment's next ready one, whatever that is, or a free value at the number of this draw; of the environment's side its ready
levels lose the one used, if any, and the count is one up (log entry 8). That the read and the response are one step with SERIALIZED false as
well is the model's choice (log entry 36). -/
def Obligations.ReadPinReturnsADrawWhenExternal : Prop :=
  ∀ (s : State) (pin : Nat), s.life = .mapped → s.cfg.levelMode = .external → pin < 64 →
    ∃ (t : State) (w : Word), exec (.readPin pin) s = .next t
      ∧ t = { s with rsp := ⟨0, if w.getLsbD (pin % 32) then 1 else 0, 0⟩, pc := s.pc + 1, req := none, env := t.env,
                     bus := s.bus ++ [.read (s.base + (0x34 + 4 * (pin / 32))) w] }
      ∧ t.env = { s.env with levels := s.env.levels.tail, drawn := s.env.drawn + 1 }
      ∧ (∀ l ls, s.env.levels = l :: ls → w = l)
      ∧ (s.env.levels = [] → w = Config.freeLevel s.env.drawn)

/-- R115 in `external`: what READ_PIN answers does not depend on LATCH or FSEL: two states that differ in those alone get the same answer. -/
def Obligations.ExternalReadLearnsNothingOfLatch : Prop :=
  ∀ (s t : State) (pin : Nat) (l : BitVec 64) (f : Vector Word 6), s.cfg.levelMode = .external → exec (.readPin pin) s = .next t →
    exec (.readPin pin) { s with latch := l, fsel := f } = .next { t with latch := l, fsel := f }

/-- R454: a Pin Controller request performed twice in a row (SERIALIZED true) leaves the register block and the latches as performing it
once, and returns the same status. -/
def Obligations.PinControllerRequestsAreIdempotent : Prop :=
  ∀ (s t u : State) (i : Instr),
    (∃ p m, i = .configureMode p m) ∨ (∃ p v, i = .writePin p v) ∨ (∃ p, i = .readPin p) →
    s.cfg.serialized = true → exec i s = .next t → exec i t = .next u →
    u.fsel = t.fsel ∧ u.rsvd = t.rsvd ∧ u.evt = t.evt ∧ u.latch = t.latch ∧ u.life = t.life ∧ u.rsp.status = t.rsp.status

/-- R711: WRITE_PIN requests to different pins, both with a latch, never interfere: in either order they leave the same latches and
registers. (A pin from 64 on faults and stops the block, R450.) -/
def Obligations.WritesToDifferentPinsCommute : Prop :=
  ∀ (s s1 s2 t1 t2 : State) (p q : Nat) (v w : Int), p < 64 → q < 64 → p ≠ q →
    exec (.writePin p v) s = .next s1 → exec (.writePin q w) s1 = .next s2 →
    exec (.writePin q w) s = .next t1 → exec (.writePin p v) t1 = .next t2 →
    s2.latch = t2.latch ∧ s2.fsel = t2.fsel

/-- R107: the block writes only the codes of Input and Output: with SERIALIZED true, a request leaves each pin's mode as it was or at one of
the two. -/
def Obligations.OnlyInputAndOutputCodesAreWritten : Prop :=
  ∀ (i : Instr) (s t : State), s.cfg.serialized = true → exec i s = .next t →
    ∀ p < 60, t.modeOf p = s.modeOf p ∨ t.modeOf p = 0b000 ∨ t.modeOf p = 0b001

/-! ## Lifecycle requests -/

/-- R500, R603: BIND's checks: from any LIFE but UNBOUND it faults LIFECYCLE; from UNBOUND with another base or size it faults BIND_ARGS;
FAULT alone changes. -/
def Obligations.BindFaultsOnABreachOfContract : Prop :=
  ∀ (s : State) (a b : Word), s.cfg.wf = true → s.fault = 0 →
    (s.life ≠ .unbound → exec (.bind a.toNat b.toNat) s = .next { s with fault := 2 })
    ∧ (s.life = .unbound → a.toNat ≠ s.cfg.gpioBase ∨ b ≠ s.cfg.blockSize →
        exec (.bind a.toNat b.toNat) s = .next { s with fault := 3 })

/-- R500: BIND from UNBOUND with the fixed base and size: the environment's draw decides between MAPPED, with BASE and SIZE written, and
DEAD with ADDRESS_MAP_FAILURE; no transaction, no other change. Both outcomes are admitted: the draw is the environment's next ready
answer, whatever that is, or a free value; of the environment's side its ready answers lose the one used, if any, and the count is one up
(log entry 8). -/
def Obligations.BindMapsOrFailsByTheEnvironment : Prop :=
  ∀ (s : State) (a b : Word), s.cfg.wf = true → s.life = .unbound → a.toNat = s.cfg.gpioBase → b = s.cfg.blockSize →
    ∃ (t : State) (granted : Bool), exec (.bind a.toNat b.toNat) s = .next t
      ∧ t = (if granted
          then { s with life := .mapped, base := a.toNat, size := b, rsp := ⟨0, 0, 0⟩, pc := s.pc + 1, req := none, env := t.env }
          else { s with life := .dead, rsp := ⟨4, 0, 0⟩, pc := s.pc + 1, req := none, env := t.env })
      ∧ t.env = { s.env with grants := s.env.grants.tail, drawn := s.env.drawn + 1 }
      ∧ (∀ g gs, s.env.grants = g :: gs → granted = g)
      ∧ (s.env.grants = [] → granted = Config.freeGrant s.env.drawn)

/-- R501: UNBIND releases the mapping and responds OK; with no mapping it responds UNMAPPED; nothing else changes, FSEL and LATCH among
it, and no transaction is issued. -/
def Obligations.UnbindReleasesTheMapping : Prop :=
  ∀ (s : State) (a b : Word),
    decode ⟨0x00000008, a, b⟩ = .ok .unbind
    ∧ ∃ t, exec .unbind s = .next t
      ∧ (if s.life = .mapped
          then t = { s with life := .released, rsp := ⟨0, 0, 0⟩, pc := s.pc + 1, req := none }
          else s.OnlyResponds t ⟨1, 0, 0⟩)

/-- R502: the lifecycle transitions, all of them: a step changes LIFE only by a BIND from UNBOUND, to MAPPED or DEAD, and by an UNBIND
from MAPPED, to RELEASED. -/
def Obligations.OnlyBindAndUnbindChangeLife : Prop :=
  ∀ s t : State, step s = .next t → t.life = s.life
    ∨ (∃ r b z, s.req = some r ∧ decode r = .ok (.bind b z) ∧ s.life = .unbound ∧ (t.life = .mapped ∨ t.life = .dead))
    ∨ (∃ r, s.req = some r ∧ decode r = .ok .unbind ∧ s.life = .mapped ∧ t.life = .released)

/-! ## Outcomes -/

/-- R601, R600: a request that answers an error has no side effect but the response, whose data is 0; ADDRESS_MAP_FAILURE is answered by
BIND alone and also sets LIFE to DEAD (after the environment's draw). `pc` is one up exactly where a request responds (R104). -/
def Obligations.ErrorsHaveNoSideEffect : Prop :=
  ∀ (i : Instr) (s t : State), exec i s = .next t → t.pc = s.pc + 1 → t.rsp.status ≠ 0 →
    t.rsp.d0 = 0 ∧ t.rsp.d1 = 0
    ∧ ((t.rsp.status = 1 ∧ s.life ≠ .mapped ∧ s.OnlyResponds t t.rsp)
      ∨ (t.rsp.status = 2 ∧ (∃ p m, i = .configureMode p m ∧ m ≠ 0 ∧ m ≠ 1) ∧ s.OnlyResponds t t.rsp)
      ∨ (t.rsp.status = 3 ∧ (∃ p v, i = .writePin p v ∧ v ≠ 0 ∧ v ≠ 1) ∧ s.OnlyResponds t t.rsp)
      ∨ (t.rsp.status = 4 ∧ (∃ b z, i = .bind b z)
          ∧ t = { s with life := .dead, rsp := t.rsp, pc := s.pc + 1, req := none, env := t.env }))

/-- R606: a step that raises a fault changes FAULT alone (and the environment's side, where it chose the move), and the code is one of the
four of R605. -/
def Obligations.FaultsChangeOnlyFault : Prop :=
  ∀ s t : State, step s = .next t → t.fault ≠ 0 →
    t = { s with fault := t.fault, env := t.env } ∧ 1 ≤ t.fault.toNat ∧ t.fault.toNat ≤ 4

/-- R104, R121: a request performed either responds: `pc` is one up, RSP.STATUS is one of the five statuses, no request is pending, FAULT is
as before; or it faults or is left in flight: `pc` and RSP are as before. The write of a request in flight responds (OK, 0, 0), or leaves
`pc`, RSP and the requests in flight as they were. That pc counts responses with requests in flight, kept in a list, is the model's reading
(log entries 13 and 15), and that such a write and its response are one step is its choice (log entry 36). -/
def Obligations.PcCountsResponses : Prop :=
  ∀ s t : State,
    (∀ i : Instr, exec i s = .next t →
      (t.pc = s.pc + 1 ∧ t.req = none ∧ t.fault = s.fault ∧ t.rsp.status.toNat ≤ 4)
      ∨ (t.pc = s.pc ∧ t.rsp = s.rsp ∧ t = { s with fault := t.fault })
      ∨ (t.pc = s.pc ∧ t.rsp = s.rsp ∧ s.cfg.serialized = false ∧ t.inflight.length = s.inflight.length + 1))
    ∧ (∀ k : Nat, finishRmw k s = .next t →
      (t.pc = s.pc + 1 ∧ t.rsp = ⟨0, 0, 0⟩ ∧ t.fault = s.fault ∧ t.inflight = s.inflight.eraseIdx k)
      ∨ (t.pc = s.pc ∧ t.rsp = s.rsp ∧ t.inflight = s.inflight))

/-- R123, R124: FAULT once not 0 and REFUSED once set are not changed by any request. -/
def Obligations.FaultAndRefusalAreSticky : Prop :=
  ∀ (i : Instr) (s t : State), exec i s = .next t →
    (s.fault ≠ 0 → t.fault = s.fault) ∧ t.refused = s.refused

/-! ## The whole machine -/

/-- R130, R700, R701: what reset leaves, for any parameters: LIFE, FAULT, REFUSED, REQ and the requests in flight at their reset values, FSEL
and LATCH as the peripheral holds them, LATCH zero in `loopback`. -/
def Obligations.ResetValuesAreTheSpecs : Prop :=
  (∀ c : Config,
    (State.resetWith c).life = .unbound ∧ (State.resetWith c).fault = 0 ∧ (State.resetWith c).refused = false
    ∧ (State.resetWith c).req = none ∧ (State.resetWith c).inflight = [] ∧ (State.resetWith c).pc = 0
    ∧ (State.resetWith c).fsel = c.fselInit ∧ (State.resetWith c).latch = c.latchInit
    ∧ (c.wf = true → c.levelMode = .loopback → (State.resetWith c).latch = 0))
  ∧ Config.reference.wf = true ∧ State.reset = State.resetWith Config.reference

/-- The invariant holds after reset with any parameters that meet R9. R130 leaves RSP and the contents of EVT unspecified: the clauses on
RSP.STATUS and on EVT's extent rest on the model's reset values (log entries 5 and 6). -/
def Obligations.BlockInvariantAtReset : Prop :=
  ∀ c : Config, c.wf = true → (State.resetWith c).Inv

/-- The invariant of the block (`State.Inv`): the mapping handle is the fixed window while MAPPED (R102, R500), every transaction issued is
one of R203's, no request is in flight with SERIALIZED true (R125), a caller has at most one
request in progress (the model's choice, log entry 13), FAULT and RSP.STATUS hold named codes (R605, R306). Every step keeps it. -/
def Obligations.EveryStepKeepsTheBlockInvariant : Prop :=
  ∀ s t : State, s.Inv → step s = .next t → t.Inv

/-- R201, R202: every transaction a step adds is to an aligned word inside the mapped window. -/
def Obligations.TransactionsStayInTheMappedWindow : Prop :=
  ∀ s t : State, s.Inv → step s = .next t → ∃ xs, t.bus = s.bus ++ xs ∧ ∀ x ∈ xs,
    s.life = .mapped ∧ x.addr % 4 = 0 ∧ s.base ≤ x.addr ∧ x.addr + 4 ≤ s.base + s.size.toNat

/-- R450, R501, R712: while no mapping exists no step issues a transaction or changes a function-select register or a latch. -/
def Obligations.NoRegisterAccessWhileUnmapped : Prop :=
  ∀ s t : State, s.life ≠ .mapped → step s = .next t → t.bus = s.bus ∧ t.fsel = s.fsel ∧ t.latch = s.latch

/-- R108, R112, R604: no step changes the reserved words or the event-detect region; nor do the parameters change (R9). -/
def Obligations.ReservedRegistersAreNeverTouched : Prop :=
  ∀ s t : State, step s = .next t → t.rsvd = s.rsvd ∧ t.evt = s.evt ∧ t.cfg = s.cfg

/-- R720: a step adds at most two transactions to those issued, and changes none of them. -/
def Obligations.AtMostTwoTransactionsAStep : Prop :=
  ∀ s t : State, step s = .next t → ∃ xs, t.bus = s.bus ++ xs ∧ xs.length ≤ 2

/-- R203, R607: a model-level access that is not one of the transactions of R203 (width 4; a read of FSEL or LEV, a write of FSEL, a one-hot
write of SET or CLR) is refused: REFUSED alone changes. Three clauses are the model's choice (log entry 23): that an access of R203's form is
refused while no mapping exists, that a write to SET or CLR of a word that is not one-hot is, and that a refused access sets REFUSED beside a
block already stopped (FAULT not 0) as well. (That every other access is performed, also log entry 23, is no part of this statement.) -/
def Obligations.OtherRawAccessesAreRefused : Prop :=
  ∀ (s : State) (off width : Nat) (v : Word),
    (s.life ≠ .mapped ∨ width ≠ 4 ∨ ¬ ((∃ i < 6, off = 4 * i) ∨ (∃ i < 2, off = 0x34 + 4 * i)) →
      rawAccess (.read off width) s = .next { s with refused := true })
    ∧ (s.life ≠ .mapped ∨ width ≠ 4
        ∨ ¬ ((∃ i < 6, off = 4 * i) ∨ ((∃ i < 2, off = 0x1C + 4 * i ∨ off = 0x28 + 4 * i) ∧ ∃ b < 32, v = 1#32 <<< b)) →
      rawAccess (.write off width v) s = .next { s with refused := true })

/-! ## Host side -/

/-- R309, and the table of R308: each assembler line is the request its row gives, and each pseudo-instruction the request of its
expansion. -/
def Obligations.AssemblerLinesAreTheirRequests : Prop :=
  ∀ (pin base size : Nat) (z : Int),
    (Asm.fsidx pin).assemble = encode (.fselIndex pin) ∧ (Asm.fsoff pin).assemble = encode (.fselOffset pin)
    ∧ (Asm.bitidx pin).assemble = encode (.bitIndex pin) ∧ (Asm.cfg pin z).assemble = encode (.configureMode pin z)
    ∧ (Asm.wr pin z).assemble = encode (.writePin pin z) ∧ (Asm.rd pin).assemble = encode (.readPin pin)
    ∧ (Asm.bind base size).assemble = encode (.bind base size) ∧ Asm.unbind.assemble = encode .unbind
    ∧ (Asm.input pin).assemble = encode (.configureMode pin 0) ∧ (Asm.output pin).assemble = encode (.configureMode pin 1)
    ∧ (Asm.set pin).assemble = encode (.writePin pin 1) ∧ (Asm.clr pin).assemble = encode (.writePin pin 0)
    ∧ ∀ a : Asm, a.expand.assemble = a.assemble

/-- R510, R703: at startup the collaborator issues BIND once, first, with the fixed base and size, and after it CONFIGURE_MODE for each entry
of the layout, in order; at shutdown WRITE_PIN or CONFIGURE_MODE for each move to the safe state, in order, and after them UNBIND once,
last. What does not fit a request word is left out, and where GPIO_BASE does not fit nothing is issued: the model's choice (log entry 33). -/
def Obligations.StartupAndShutdownProgramsKeepTheirOrder : Prop :=
  (∀ (c : Config) (layout : List (Nat × Int)),
    (c.gpioBase < 2 ^ 32 → (∀ m ∈ layout, m.1 < 2 ^ 32 ∧ -2 ^ 31 ≤ m.2 ∧ m.2 < 2 ^ 31) →
      (startupProgram c layout).map decode
        = .ok (.bind c.gpioBase c.blockSize.toNat) :: layout.map fun m => .ok (.configureMode m.1 m.2))
    ∧ (c.gpioBase < 2 ^ 32 → (startupProgram c layout).map decode
        = .ok (.bind c.gpioBase c.blockSize.toNat)
          :: (layout.filter fun m => (Instr.configureMode m.1 m.2).wf).map fun m => .ok (.configureMode m.1 m.2))
    ∧ (2 ^ 32 ≤ c.gpioBase → startupProgram c layout = []))
  ∧ (∀ safe : List SafeDrive,
    ((∀ d ∈ safe, (safeDriveInstr d).wf = true) →
      (shutdownProgram safe).map decode = (safe.map fun d => .ok (safeDriveInstr d)) ++ [.ok .unbind])
    ∧ (shutdownProgram safe).map decode
        = ((safe.filter fun d => (safeDriveInstr d).wf).map fun d => .ok (safeDriveInstr d)) ++ [.ok .unbind])
  ∧ (∀ pin value, safeDriveInstr (.write pin value) = .writePin pin value)
  ∧ (∀ pin mode, safeDriveInstr (.configure pin mode) = .configureMode pin mode)

/-- R512: the bridge turns parsed names and values into READ_PIN and WRITE_PIN, issues nothing on a failed parse, and shows READ_PIN's D0 as
"1" or "0" and a line feed. That it issues nothing either for a pin or value wider than its request word, which D7 leaves outside the model,
is the model's choice (log entry 32); so is that a parse is an optional result (log entry 30), and that an error response is shown as no text
(log entry 35). -/
def Obligations.AttributeBridgeKeepsItsContract : Prop :=
  ∀ (pin : Nat) (value : Int),
    (pin < 2 ^ 32 → ∃ r, bridgeRead (some pin) = some r ∧ decode r = .ok (.readPin pin))
    ∧ (pin < 2 ^ 32 → -2 ^ 31 ≤ value → value < 2 ^ 31 →
        ∃ r, bridgeWrite (some pin) (some value) = some r ∧ decode r = .ok (.writePin pin value))
    ∧ (2 ^ 32 ≤ pin → bridgeRead (some pin) = none ∧ bridgeWrite (some pin) (some value) = none)
    ∧ (value < -2 ^ 31 ∨ 2 ^ 31 ≤ value → bridgeWrite (some pin) (some value) = none)
    ∧ bridgeRead none = none ∧ (∀ v, bridgeWrite none v = none) ∧ (∀ p, bridgeWrite p none = none)
    ∧ bridgeText 1 = [0x31, 0x0A] ∧ bridgeText 0 = [0x30, 0x0A]
    ∧ (∀ d0 d1 : Word, bridgeReply ⟨0, d0, d1⟩ = some (bridgeText d0)) ∧ (∀ r : Rsp, r.status ≠ 0 → bridgeReply r = none)
end

