-- ==== Sys2Proof/Laws/Operands.lean ====
section
/-! SUPPORT. What the Register Map's functions answer (40_register_map.md R401 to R409). -/

namespace Sys2Proof.Machine

theorem fselIndex_lt_iff (p : Nat) : fselIndex p < 6 ↔ p < 60 := by unfold fselIndex; omega

theorem bitReg_lt_iff (p : Nat) : bitReg p < 2 ↔ p < 64 := by unfold bitReg; omega

@[simp] theorem fselInRange_eq (p : Nat) : fselInRange p = decide (p < 60) := by
  simp only [fselInRange, fselIndex_lt_iff]

@[simp] theorem bitInRange_eq (p : Nat) : bitInRange p = decide (p < 64) := by
  simp only [bitInRange, bitReg_lt_iff]

theorem fselOffset_eq (p : Nat) : fselOffset p = 3 * (p % 10) := by unfold fselOffset fselIndex; omega

theorem bitPos_lt (p : Nat) : bitPos p < 32 := by unfold bitPos; omega

theorem bitReg_bitPos (p : Nat) : 32 * bitReg p + bitPos p = p := by unfold bitReg bitPos; omega

@[simp] theorem modeCode_zero : modeCode 0 = some 0 := rfl

@[simp] theorem modeCode_one : modeCode 1 = some 1 := rfl

theorem modeCode_eq_none_iff (m : Int) : modeCode m = none ↔ m ≠ 0 ∧ m ≠ 1 := by
  unfold modeCode; split <;> [skip; split] <;> simp_all

/-- A valid mode's code is the code of Input or of Output (R407). -/
theorem modeCode_eq_some (m : Int) (c : BitVec 3) (h : modeCode m = some c) : (m = 0 ∧ c = 0) ∨ (m = 1 ∧ c = 1) := by
  unfold modeCode at h; split at h <;> [skip; split at h] <;> simp_all

@[simp] theorem pinValue_zero : pinValue 0 = some false := rfl

@[simp] theorem pinValue_one : pinValue 1 = some true := rfl

theorem pinValue_eq_none_iff (v : Int) : pinValue v = none ↔ v ≠ 0 ∧ v ≠ 1 := by
  unfold pinValue; split <;> [skip; split] <;> simp_all

theorem pinValue_eq_some (v : Int) (b : Bool) (h : pinValue v = some b) : (v = 0 ∧ b = false) ∨ (v = 1 ∧ b = true) := by
  unfold pinValue at h; split at h <;> [skip; split at h] <;> simp_all

/-- An operand of one word is an address of PADDR_W bits as it stands (R302, R9). -/
theorem zextPaddr_eq (c : Config) (a : Nat) (hw : 32 ≤ c.paddrW) (ha : a < 2 ^ 32) : zextPaddr c a = a := by
  have : 2 ^ 32 ≤ 2 ^ c.paddrW := Nat.pow_le_pow_right (by decide) hw
  simp [zextPaddr, Nat.mod_eq_of_lt (lt_of_lt_of_le ha this)]

/-- The bits of the mask of a field (R405). -/
theorem getLsbD_fieldMask (off b : Nat) (hb : b < 32) :
    (0b111#32 <<< off).getLsbD b = (decide (off ≤ b) && decide (b < off + 3)) := by
  have h7 : ∀ k : Nat, (0b111#32).getLsbD k = decide (k < 3) := by
    intro k
    by_cases hk : k < 32
    · interval_cases k <;> decide
    · simp [BitVec.getLsbD_of_ge _ _ (not_lt.mp hk)]; omega
  simp only [BitVec.getLsbD_shiftLeft, hb, decide_true, Bool.true_and, h7]
  by_cases h : off ≤ b
  · simp [h, show ¬ b < off by omega]; omega
  · simp [h, show b < off by omega]

/-- Every bit of a word after its field at `off` is replaced: the code's bits inside the field, the word's own outside (R405). -/
theorem getLsbD_encodeFsel (w : Word) (off : Nat) (c : BitVec 3) (b : Nat) (hb : b < 32) :
    (encodeFsel w off c).getLsbD b = if off ≤ b ∧ b < off + 3 then c.getLsbD (b - off) else w.getLsbD b := by
  unfold encodeFsel
  rw [BitVec.getLsbD_or, BitVec.getLsbD_and, BitVec.getLsbD_not, getLsbD_fieldMask off b hb, BitVec.getLsbD_shiftLeft,
    BitVec.getLsbD_setWidth]
  by_cases h1 : off ≤ b <;> by_cases h2 : b < off + 3
  · simp [h1, h2, hb, show ¬ b < off by omega, show b - off < 32 by omega]
  · simp [h1, h2, hb, BitVec.getLsbD_of_ge c (b - off) (by omega)]
  · simp [h1, h2, hb, show b < off by omega]
  · omega

/-- The bits of a field's code (R406). -/
theorem getLsbD_decodeFsel (w : Word) (off k : Nat) (hk : k < 3) : (decodeFsel w off).getLsbD k = w.getLsbD (off + k) := by
  simp [decodeFsel, hk]

/-- The bits of the one-hot word of a pin (R408). -/
theorem getLsbD_onehot (p b : Nat) : (onehot p).getLsbD b = decide (b = bitPos p) := by
  have := bitPos_lt p
  unfold onehot
  by_cases hb : b < 32
  · simp only [BitVec.getLsbD_shiftLeft, hb, decide_true, Bool.true_and, BitVec.getLsbD_one]
    by_cases h : b = bitPos p
    · simp [h]
    · by_cases h2 : b < bitPos p
      · simp [h, h2]
      · simp [h, h2]; omega
  · rw [BitVec.getLsbD_of_ge _ _ (by omega)]
    simp; omega

end Sys2Proof.Machine
end

