-- ==== Sys2Proof/Laws/State.lean ====
section
/-! SUPPORT. For every update of State in Machine/Ops.lean, what each field holds after it, so that no proof unfolds an update. -/

namespace Sys2Proof.Machine

/-! ### `State.answer` -/

@[simp] theorem State.answer_cfg (s : State) (r : Rsp) : (s.answer r).cfg = s.cfg := rfl
@[simp] theorem State.answer_life (s : State) (r : Rsp) : (s.answer r).life = s.life := rfl
@[simp] theorem State.answer_base (s : State) (r : Rsp) : (s.answer r).base = s.base := rfl
@[simp] theorem State.answer_size (s : State) (r : Rsp) : (s.answer r).size = s.size := rfl
@[simp] theorem State.answer_fsel (s : State) (r : Rsp) : (s.answer r).fsel = s.fsel := rfl
@[simp] theorem State.answer_rsvd (s : State) (r : Rsp) : (s.answer r).rsvd = s.rsvd := rfl
@[simp] theorem State.answer_evt (s : State) (r : Rsp) : (s.answer r).evt = s.evt := rfl
@[simp] theorem State.answer_latch (s : State) (r : Rsp) : (s.answer r).latch = s.latch := rfl
@[simp] theorem State.answer_req (s : State) (r : Rsp) : (s.answer r).req = none := rfl
@[simp] theorem State.answer_rsp (s : State) (r : Rsp) : (s.answer r).rsp = r := rfl
@[simp] theorem State.answer_fault (s : State) (r : Rsp) : (s.answer r).fault = s.fault := rfl
@[simp] theorem State.answer_refused (s : State) (r : Rsp) : (s.answer r).refused = s.refused := rfl
@[simp] theorem State.answer_inflight (s : State) (r : Rsp) : (s.answer r).inflight = s.inflight := rfl
@[simp] theorem State.answer_pc (s : State) (r : Rsp) : (s.answer r).pc = s.pc + 1 := rfl
@[simp] theorem State.answer_queues (s : State) (r : Rsp) : (s.answer r).queues = s.queues := rfl
@[simp] theorem State.answer_caller (s : State) (r : Rsp) : (s.answer r).caller = s.caller := rfl
@[simp] theorem State.answer_bus (s : State) (r : Rsp) : (s.answer r).bus = s.bus := rfl
@[simp] theorem State.answer_env (s : State) (r : Rsp) : (s.answer r).env = s.env := rfl

/-! ### `State.setFault` -/

@[simp] theorem State.setFault_cfg (s : State) (c : BitVec 8) : (s.setFault c).cfg = s.cfg := rfl
@[simp] theorem State.setFault_life (s : State) (c : BitVec 8) : (s.setFault c).life = s.life := rfl
@[simp] theorem State.setFault_base (s : State) (c : BitVec 8) : (s.setFault c).base = s.base := rfl
@[simp] theorem State.setFault_size (s : State) (c : BitVec 8) : (s.setFault c).size = s.size := rfl
@[simp] theorem State.setFault_fsel (s : State) (c : BitVec 8) : (s.setFault c).fsel = s.fsel := rfl
@[simp] theorem State.setFault_rsvd (s : State) (c : BitVec 8) : (s.setFault c).rsvd = s.rsvd := rfl
@[simp] theorem State.setFault_evt (s : State) (c : BitVec 8) : (s.setFault c).evt = s.evt := rfl
@[simp] theorem State.setFault_latch (s : State) (c : BitVec 8) : (s.setFault c).latch = s.latch := rfl
@[simp] theorem State.setFault_req (s : State) (c : BitVec 8) : (s.setFault c).req = s.req := rfl
@[simp] theorem State.setFault_rsp (s : State) (c : BitVec 8) : (s.setFault c).rsp = s.rsp := rfl
@[simp] theorem State.setFault_fault (s : State) (c : BitVec 8) : (s.setFault c).fault = c := rfl
@[simp] theorem State.setFault_refused (s : State) (c : BitVec 8) : (s.setFault c).refused = s.refused := rfl
@[simp] theorem State.setFault_inflight (s : State) (c : BitVec 8) : (s.setFault c).inflight = s.inflight := rfl
@[simp] theorem State.setFault_pc (s : State) (c : BitVec 8) : (s.setFault c).pc = s.pc := rfl
@[simp] theorem State.setFault_queues (s : State) (c : BitVec 8) : (s.setFault c).queues = s.queues := rfl
@[simp] theorem State.setFault_caller (s : State) (c : BitVec 8) : (s.setFault c).caller = s.caller := rfl
@[simp] theorem State.setFault_bus (s : State) (c : BitVec 8) : (s.setFault c).bus = s.bus := rfl
@[simp] theorem State.setFault_env (s : State) (c : BitVec 8) : (s.setFault c).env = s.env := rfl

/-! ### `State.setRefused` -/

@[simp] theorem State.setRefused_cfg (s : State) : (s.setRefused).cfg = s.cfg := rfl
@[simp] theorem State.setRefused_life (s : State) : (s.setRefused).life = s.life := rfl
@[simp] theorem State.setRefused_base (s : State) : (s.setRefused).base = s.base := rfl
@[simp] theorem State.setRefused_size (s : State) : (s.setRefused).size = s.size := rfl
@[simp] theorem State.setRefused_fsel (s : State) : (s.setRefused).fsel = s.fsel := rfl
@[simp] theorem State.setRefused_rsvd (s : State) : (s.setRefused).rsvd = s.rsvd := rfl
@[simp] theorem State.setRefused_evt (s : State) : (s.setRefused).evt = s.evt := rfl
@[simp] theorem State.setRefused_latch (s : State) : (s.setRefused).latch = s.latch := rfl
@[simp] theorem State.setRefused_req (s : State) : (s.setRefused).req = s.req := rfl
@[simp] theorem State.setRefused_rsp (s : State) : (s.setRefused).rsp = s.rsp := rfl
@[simp] theorem State.setRefused_fault (s : State) : (s.setRefused).fault = s.fault := rfl
@[simp] theorem State.setRefused_refused (s : State) : (s.setRefused).refused = true := rfl
@[simp] theorem State.setRefused_inflight (s : State) : (s.setRefused).inflight = s.inflight := rfl
@[simp] theorem State.setRefused_pc (s : State) : (s.setRefused).pc = s.pc := rfl
@[simp] theorem State.setRefused_queues (s : State) : (s.setRefused).queues = s.queues := rfl
@[simp] theorem State.setRefused_caller (s : State) : (s.setRefused).caller = s.caller := rfl
@[simp] theorem State.setRefused_bus (s : State) : (s.setRefused).bus = s.bus := rfl
@[simp] theorem State.setRefused_env (s : State) : (s.setRefused).env = s.env := rfl

/-! ### `State.setLife` -/

@[simp] theorem State.setLife_cfg (s : State) (l : Life) : (s.setLife l).cfg = s.cfg := rfl
@[simp] theorem State.setLife_life (s : State) (l : Life) : (s.setLife l).life = l := rfl
@[simp] theorem State.setLife_base (s : State) (l : Life) : (s.setLife l).base = s.base := rfl
@[simp] theorem State.setLife_size (s : State) (l : Life) : (s.setLife l).size = s.size := rfl
@[simp] theorem State.setLife_fsel (s : State) (l : Life) : (s.setLife l).fsel = s.fsel := rfl
@[simp] theorem State.setLife_rsvd (s : State) (l : Life) : (s.setLife l).rsvd = s.rsvd := rfl
@[simp] theorem State.setLife_evt (s : State) (l : Life) : (s.setLife l).evt = s.evt := rfl
@[simp] theorem State.setLife_latch (s : State) (l : Life) : (s.setLife l).latch = s.latch := rfl
@[simp] theorem State.setLife_req (s : State) (l : Life) : (s.setLife l).req = s.req := rfl
@[simp] theorem State.setLife_rsp (s : State) (l : Life) : (s.setLife l).rsp = s.rsp := rfl
@[simp] theorem State.setLife_fault (s : State) (l : Life) : (s.setLife l).fault = s.fault := rfl
@[simp] theorem State.setLife_refused (s : State) (l : Life) : (s.setLife l).refused = s.refused := rfl
@[simp] theorem State.setLife_inflight (s : State) (l : Life) : (s.setLife l).inflight = s.inflight := rfl
@[simp] theorem State.setLife_pc (s : State) (l : Life) : (s.setLife l).pc = s.pc := rfl
@[simp] theorem State.setLife_queues (s : State) (l : Life) : (s.setLife l).queues = s.queues := rfl
@[simp] theorem State.setLife_caller (s : State) (l : Life) : (s.setLife l).caller = s.caller := rfl
@[simp] theorem State.setLife_bus (s : State) (l : Life) : (s.setLife l).bus = s.bus := rfl
@[simp] theorem State.setLife_env (s : State) (l : Life) : (s.setLife l).env = s.env := rfl

/-! ### `State.setMapping` -/

@[simp] theorem State.setMapping_cfg (s : State) (b : Nat) (z : Word) : (s.setMapping b z).cfg = s.cfg := rfl
@[simp] theorem State.setMapping_life (s : State) (b : Nat) (z : Word) : (s.setMapping b z).life = s.life := rfl
@[simp] theorem State.setMapping_base (s : State) (b : Nat) (z : Word) : (s.setMapping b z).base = b := rfl
@[simp] theorem State.setMapping_size (s : State) (b : Nat) (z : Word) : (s.setMapping b z).size = z := rfl
@[simp] theorem State.setMapping_fsel (s : State) (b : Nat) (z : Word) : (s.setMapping b z).fsel = s.fsel := rfl
@[simp] theorem State.setMapping_rsvd (s : State) (b : Nat) (z : Word) : (s.setMapping b z).rsvd = s.rsvd := rfl
@[simp] theorem State.setMapping_evt (s : State) (b : Nat) (z : Word) : (s.setMapping b z).evt = s.evt := rfl
@[simp] theorem State.setMapping_latch (s : State) (b : Nat) (z : Word) : (s.setMapping b z).latch = s.latch := rfl
@[simp] theorem State.setMapping_req (s : State) (b : Nat) (z : Word) : (s.setMapping b z).req = s.req := rfl
@[simp] theorem State.setMapping_rsp (s : State) (b : Nat) (z : Word) : (s.setMapping b z).rsp = s.rsp := rfl
@[simp] theorem State.setMapping_fault (s : State) (b : Nat) (z : Word) : (s.setMapping b z).fault = s.fault := rfl
@[simp] theorem State.setMapping_refused (s : State) (b : Nat) (z : Word) : (s.setMapping b z).refused = s.refused := rfl
@[simp] theorem State.setMapping_inflight (s : State) (b : Nat) (z : Word) : (s.setMapping b z).inflight = s.inflight := rfl
@[simp] theorem State.setMapping_pc (s : State) (b : Nat) (z : Word) : (s.setMapping b z).pc = s.pc := rfl
@[simp] theorem State.setMapping_queues (s : State) (b : Nat) (z : Word) : (s.setMapping b z).queues = s.queues := rfl
@[simp] theorem State.setMapping_caller (s : State) (b : Nat) (z : Word) : (s.setMapping b z).caller = s.caller := rfl
@[simp] theorem State.setMapping_bus (s : State) (b : Nat) (z : Word) : (s.setMapping b z).bus = s.bus := rfl
@[simp] theorem State.setMapping_env (s : State) (b : Nat) (z : Word) : (s.setMapping b z).env = s.env := rfl

/-! ### `State.setFsel` -/

@[simp] theorem State.setFsel_cfg (s : State) (i : Fin 6) (v : Word) : (s.setFsel i v).cfg = s.cfg := rfl
@[simp] theorem State.setFsel_life (s : State) (i : Fin 6) (v : Word) : (s.setFsel i v).life = s.life := rfl
@[simp] theorem State.setFsel_base (s : State) (i : Fin 6) (v : Word) : (s.setFsel i v).base = s.base := rfl
@[simp] theorem State.setFsel_size (s : State) (i : Fin 6) (v : Word) : (s.setFsel i v).size = s.size := rfl
@[simp] theorem State.setFsel_fsel (s : State) (i : Fin 6) (v : Word) : (s.setFsel i v).fsel = s.fsel.set i v := rfl
@[simp] theorem State.setFsel_rsvd (s : State) (i : Fin 6) (v : Word) : (s.setFsel i v).rsvd = s.rsvd := rfl
@[simp] theorem State.setFsel_evt (s : State) (i : Fin 6) (v : Word) : (s.setFsel i v).evt = s.evt := rfl
@[simp] theorem State.setFsel_latch (s : State) (i : Fin 6) (v : Word) : (s.setFsel i v).latch = s.latch := rfl
@[simp] theorem State.setFsel_req (s : State) (i : Fin 6) (v : Word) : (s.setFsel i v).req = s.req := rfl
@[simp] theorem State.setFsel_rsp (s : State) (i : Fin 6) (v : Word) : (s.setFsel i v).rsp = s.rsp := rfl
@[simp] theorem State.setFsel_fault (s : State) (i : Fin 6) (v : Word) : (s.setFsel i v).fault = s.fault := rfl
@[simp] theorem State.setFsel_refused (s : State) (i : Fin 6) (v : Word) : (s.setFsel i v).refused = s.refused := rfl
@[simp] theorem State.setFsel_inflight (s : State) (i : Fin 6) (v : Word) : (s.setFsel i v).inflight = s.inflight := rfl
@[simp] theorem State.setFsel_pc (s : State) (i : Fin 6) (v : Word) : (s.setFsel i v).pc = s.pc := rfl
@[simp] theorem State.setFsel_queues (s : State) (i : Fin 6) (v : Word) : (s.setFsel i v).queues = s.queues := rfl
@[simp] theorem State.setFsel_caller (s : State) (i : Fin 6) (v : Word) : (s.setFsel i v).caller = s.caller := rfl
@[simp] theorem State.setFsel_bus (s : State) (i : Fin 6) (v : Word) : (s.setFsel i v).bus = s.bus := rfl
@[simp] theorem State.setFsel_env (s : State) (i : Fin 6) (v : Word) : (s.setFsel i v).env = s.env := rfl

/-! ### `State.setLatch` -/

@[simp] theorem State.setLatch_cfg (s : State) (l : BitVec 64) : (s.setLatch l).cfg = s.cfg := rfl
@[simp] theorem State.setLatch_life (s : State) (l : BitVec 64) : (s.setLatch l).life = s.life := rfl
@[simp] theorem State.setLatch_base (s : State) (l : BitVec 64) : (s.setLatch l).base = s.base := rfl
@[simp] theorem State.setLatch_size (s : State) (l : BitVec 64) : (s.setLatch l).size = s.size := rfl
@[simp] theorem State.setLatch_fsel (s : State) (l : BitVec 64) : (s.setLatch l).fsel = s.fsel := rfl
@[simp] theorem State.setLatch_rsvd (s : State) (l : BitVec 64) : (s.setLatch l).rsvd = s.rsvd := rfl
@[simp] theorem State.setLatch_evt (s : State) (l : BitVec 64) : (s.setLatch l).evt = s.evt := rfl
@[simp] theorem State.setLatch_latch (s : State) (l : BitVec 64) : (s.setLatch l).latch = l := rfl
@[simp] theorem State.setLatch_req (s : State) (l : BitVec 64) : (s.setLatch l).req = s.req := rfl
@[simp] theorem State.setLatch_rsp (s : State) (l : BitVec 64) : (s.setLatch l).rsp = s.rsp := rfl
@[simp] theorem State.setLatch_fault (s : State) (l : BitVec 64) : (s.setLatch l).fault = s.fault := rfl
@[simp] theorem State.setLatch_refused (s : State) (l : BitVec 64) : (s.setLatch l).refused = s.refused := rfl
@[simp] theorem State.setLatch_inflight (s : State) (l : BitVec 64) : (s.setLatch l).inflight = s.inflight := rfl
@[simp] theorem State.setLatch_pc (s : State) (l : BitVec 64) : (s.setLatch l).pc = s.pc := rfl
@[simp] theorem State.setLatch_queues (s : State) (l : BitVec 64) : (s.setLatch l).queues = s.queues := rfl
@[simp] theorem State.setLatch_caller (s : State) (l : BitVec 64) : (s.setLatch l).caller = s.caller := rfl
@[simp] theorem State.setLatch_bus (s : State) (l : BitVec 64) : (s.setLatch l).bus = s.bus := rfl
@[simp] theorem State.setLatch_env (s : State) (l : BitVec 64) : (s.setLatch l).env = s.env := rfl

/-! ### `State.logTxn` -/

@[simp] theorem State.logTxn_cfg (s : State) (x : Txn) : (s.logTxn x).cfg = s.cfg := rfl
@[simp] theorem State.logTxn_life (s : State) (x : Txn) : (s.logTxn x).life = s.life := rfl
@[simp] theorem State.logTxn_base (s : State) (x : Txn) : (s.logTxn x).base = s.base := rfl
@[simp] theorem State.logTxn_size (s : State) (x : Txn) : (s.logTxn x).size = s.size := rfl
@[simp] theorem State.logTxn_fsel (s : State) (x : Txn) : (s.logTxn x).fsel = s.fsel := rfl
@[simp] theorem State.logTxn_rsvd (s : State) (x : Txn) : (s.logTxn x).rsvd = s.rsvd := rfl
@[simp] theorem State.logTxn_evt (s : State) (x : Txn) : (s.logTxn x).evt = s.evt := rfl
@[simp] theorem State.logTxn_latch (s : State) (x : Txn) : (s.logTxn x).latch = s.latch := rfl
@[simp] theorem State.logTxn_req (s : State) (x : Txn) : (s.logTxn x).req = s.req := rfl
@[simp] theorem State.logTxn_rsp (s : State) (x : Txn) : (s.logTxn x).rsp = s.rsp := rfl
@[simp] theorem State.logTxn_fault (s : State) (x : Txn) : (s.logTxn x).fault = s.fault := rfl
@[simp] theorem State.logTxn_refused (s : State) (x : Txn) : (s.logTxn x).refused = s.refused := rfl
@[simp] theorem State.logTxn_inflight (s : State) (x : Txn) : (s.logTxn x).inflight = s.inflight := rfl
@[simp] theorem State.logTxn_pc (s : State) (x : Txn) : (s.logTxn x).pc = s.pc := rfl
@[simp] theorem State.logTxn_queues (s : State) (x : Txn) : (s.logTxn x).queues = s.queues := rfl
@[simp] theorem State.logTxn_caller (s : State) (x : Txn) : (s.logTxn x).caller = s.caller := rfl
@[simp] theorem State.logTxn_bus (s : State) (x : Txn) : (s.logTxn x).bus = s.bus ++ [x] := rfl
@[simp] theorem State.logTxn_env (s : State) (x : Txn) : (s.logTxn x).env = s.env := rfl

/-! ### `State.setEnv` -/

@[simp] theorem State.setEnv_cfg (s : State) (e : Env) : (s.setEnv e).cfg = s.cfg := rfl
@[simp] theorem State.setEnv_life (s : State) (e : Env) : (s.setEnv e).life = s.life := rfl
@[simp] theorem State.setEnv_base (s : State) (e : Env) : (s.setEnv e).base = s.base := rfl
@[simp] theorem State.setEnv_size (s : State) (e : Env) : (s.setEnv e).size = s.size := rfl
@[simp] theorem State.setEnv_fsel (s : State) (e : Env) : (s.setEnv e).fsel = s.fsel := rfl
@[simp] theorem State.setEnv_rsvd (s : State) (e : Env) : (s.setEnv e).rsvd = s.rsvd := rfl
@[simp] theorem State.setEnv_evt (s : State) (e : Env) : (s.setEnv e).evt = s.evt := rfl
@[simp] theorem State.setEnv_latch (s : State) (e : Env) : (s.setEnv e).latch = s.latch := rfl
@[simp] theorem State.setEnv_req (s : State) (e : Env) : (s.setEnv e).req = s.req := rfl
@[simp] theorem State.setEnv_rsp (s : State) (e : Env) : (s.setEnv e).rsp = s.rsp := rfl
@[simp] theorem State.setEnv_fault (s : State) (e : Env) : (s.setEnv e).fault = s.fault := rfl
@[simp] theorem State.setEnv_refused (s : State) (e : Env) : (s.setEnv e).refused = s.refused := rfl
@[simp] theorem State.setEnv_inflight (s : State) (e : Env) : (s.setEnv e).inflight = s.inflight := rfl
@[simp] theorem State.setEnv_pc (s : State) (e : Env) : (s.setEnv e).pc = s.pc := rfl
@[simp] theorem State.setEnv_queues (s : State) (e : Env) : (s.setEnv e).queues = s.queues := rfl
@[simp] theorem State.setEnv_caller (s : State) (e : Env) : (s.setEnv e).caller = s.caller := rfl
@[simp] theorem State.setEnv_bus (s : State) (e : Env) : (s.setEnv e).bus = s.bus := rfl
@[simp] theorem State.setEnv_env (s : State) (e : Env) : (s.setEnv e).env = e := rfl

/-! ### `State.defer` -/

@[simp] theorem State.defer_cfg (s : State) (r : Rmw) : (s.defer r).cfg = s.cfg := rfl
@[simp] theorem State.defer_life (s : State) (r : Rmw) : (s.defer r).life = s.life := rfl
@[simp] theorem State.defer_base (s : State) (r : Rmw) : (s.defer r).base = s.base := rfl
@[simp] theorem State.defer_size (s : State) (r : Rmw) : (s.defer r).size = s.size := rfl
@[simp] theorem State.defer_fsel (s : State) (r : Rmw) : (s.defer r).fsel = s.fsel := rfl
@[simp] theorem State.defer_rsvd (s : State) (r : Rmw) : (s.defer r).rsvd = s.rsvd := rfl
@[simp] theorem State.defer_evt (s : State) (r : Rmw) : (s.defer r).evt = s.evt := rfl
@[simp] theorem State.defer_latch (s : State) (r : Rmw) : (s.defer r).latch = s.latch := rfl
@[simp] theorem State.defer_req (s : State) (r : Rmw) : (s.defer r).req = none := rfl
@[simp] theorem State.defer_rsp (s : State) (r : Rmw) : (s.defer r).rsp = s.rsp := rfl
@[simp] theorem State.defer_fault (s : State) (r : Rmw) : (s.defer r).fault = s.fault := rfl
@[simp] theorem State.defer_refused (s : State) (r : Rmw) : (s.defer r).refused = s.refused := rfl
@[simp] theorem State.defer_inflight (s : State) (r : Rmw) : (s.defer r).inflight = s.inflight ++ [r] := rfl
@[simp] theorem State.defer_pc (s : State) (r : Rmw) : (s.defer r).pc = s.pc := rfl
@[simp] theorem State.defer_queues (s : State) (r : Rmw) : (s.defer r).queues = s.queues := rfl
@[simp] theorem State.defer_caller (s : State) (r : Rmw) : (s.defer r).caller = s.caller := rfl
@[simp] theorem State.defer_bus (s : State) (r : Rmw) : (s.defer r).bus = s.bus := rfl
@[simp] theorem State.defer_env (s : State) (r : Rmw) : (s.defer r).env = s.env := rfl

/-! ### `State.retire` -/

@[simp] theorem State.retire_cfg (s : State) (k : Nat) : (s.retire k).cfg = s.cfg := rfl
@[simp] theorem State.retire_life (s : State) (k : Nat) : (s.retire k).life = s.life := rfl
@[simp] theorem State.retire_base (s : State) (k : Nat) : (s.retire k).base = s.base := rfl
@[simp] theorem State.retire_size (s : State) (k : Nat) : (s.retire k).size = s.size := rfl
@[simp] theorem State.retire_fsel (s : State) (k : Nat) : (s.retire k).fsel = s.fsel := rfl
@[simp] theorem State.retire_rsvd (s : State) (k : Nat) : (s.retire k).rsvd = s.rsvd := rfl
@[simp] theorem State.retire_evt (s : State) (k : Nat) : (s.retire k).evt = s.evt := rfl
@[simp] theorem State.retire_latch (s : State) (k : Nat) : (s.retire k).latch = s.latch := rfl
@[simp] theorem State.retire_req (s : State) (k : Nat) : (s.retire k).req = s.req := rfl
@[simp] theorem State.retire_rsp (s : State) (k : Nat) : (s.retire k).rsp = s.rsp := rfl
@[simp] theorem State.retire_fault (s : State) (k : Nat) : (s.retire k).fault = s.fault := rfl
@[simp] theorem State.retire_refused (s : State) (k : Nat) : (s.retire k).refused = s.refused := rfl
@[simp] theorem State.retire_inflight (s : State) (k : Nat) : (s.retire k).inflight = s.inflight.eraseIdx k := rfl
@[simp] theorem State.retire_pc (s : State) (k : Nat) : (s.retire k).pc = s.pc := rfl
@[simp] theorem State.retire_queues (s : State) (k : Nat) : (s.retire k).queues = s.queues := rfl
@[simp] theorem State.retire_caller (s : State) (k : Nat) : (s.retire k).caller = s.caller := rfl
@[simp] theorem State.retire_bus (s : State) (k : Nat) : (s.retire k).bus = s.bus := rfl
@[simp] theorem State.retire_env (s : State) (k : Nat) : (s.retire k).env = s.env := rfl

/-! ### `State.issueNext` -/

@[simp] theorem State.issueNext_cfg (s : State) (c : Nat) (r : Request) (rs : List Request) : (s.issueNext c r rs).cfg = s.cfg := rfl
@[simp] theorem State.issueNext_life (s : State) (c : Nat) (r : Request) (rs : List Request) : (s.issueNext c r rs).life = s.life := rfl
@[simp] theorem State.issueNext_base (s : State) (c : Nat) (r : Request) (rs : List Request) : (s.issueNext c r rs).base = s.base := rfl
@[simp] theorem State.issueNext_size (s : State) (c : Nat) (r : Request) (rs : List Request) : (s.issueNext c r rs).size = s.size := rfl
@[simp] theorem State.issueNext_fsel (s : State) (c : Nat) (r : Request) (rs : List Request) : (s.issueNext c r rs).fsel = s.fsel := rfl
@[simp] theorem State.issueNext_rsvd (s : State) (c : Nat) (r : Request) (rs : List Request) : (s.issueNext c r rs).rsvd = s.rsvd := rfl
@[simp] theorem State.issueNext_evt (s : State) (c : Nat) (r : Request) (rs : List Request) : (s.issueNext c r rs).evt = s.evt := rfl
@[simp] theorem State.issueNext_latch (s : State) (c : Nat) (r : Request) (rs : List Request) : (s.issueNext c r rs).latch = s.latch := rfl
@[simp] theorem State.issueNext_req (s : State) (c : Nat) (r : Request) (rs : List Request) : (s.issueNext c r rs).req = some r := rfl
@[simp] theorem State.issueNext_rsp (s : State) (c : Nat) (r : Request) (rs : List Request) : (s.issueNext c r rs).rsp = s.rsp := rfl
@[simp] theorem State.issueNext_fault (s : State) (c : Nat) (r : Request) (rs : List Request) : (s.issueNext c r rs).fault = s.fault := rfl
@[simp] theorem State.issueNext_refused (s : State) (c : Nat) (r : Request) (rs : List Request) : (s.issueNext c r rs).refused = s.refused := rfl
@[simp] theorem State.issueNext_inflight (s : State) (c : Nat) (r : Request) (rs : List Request) : (s.issueNext c r rs).inflight = s.inflight := rfl
@[simp] theorem State.issueNext_pc (s : State) (c : Nat) (r : Request) (rs : List Request) : (s.issueNext c r rs).pc = s.pc := rfl
@[simp] theorem State.issueNext_queues (s : State) (c : Nat) (r : Request) (rs : List Request) : (s.issueNext c r rs).queues = s.queues.set c rs := rfl
@[simp] theorem State.issueNext_caller (s : State) (c : Nat) (r : Request) (rs : List Request) : (s.issueNext c r rs).caller = c := rfl
@[simp] theorem State.issueNext_bus (s : State) (c : Nat) (r : Request) (rs : List Request) : (s.issueNext c r rs).bus = s.bus := rfl
@[simp] theorem State.issueNext_env (s : State) (c : Nat) (r : Request) (rs : List Request) : (s.issueNext c r rs).env = s.env := rfl

end Sys2Proof.Machine
end

