-- ==== Sys2Proof/Laws/Ops.lean ====
section
/-! SUPPORT. Everything each shared operation can do: one lemma per operation, cited instead of unfolding it. -/

namespace Sys2Proof.Machine

@[simp] theorem respond_eq (st : Status) (d0 d1 : Word) (s : State) : respond st d0 d1 s = .next (s.answer ⟨st.code, d0, d1⟩) := rfl

@[simp] theorem refuse_eq (s : State) : refuse s = .next s.setRefused := rfl

/-- The first fault is the one recorded (R606). -/
theorem raise_first (f : FaultCode) (s : State) (h : s.fault = 0) : raise f s = .next (s.setFault f.code) := by rw [raise, if_pos h]

/-- A recorded fault stays (R606). -/
theorem raise_later (f : FaultCode) (s : State) (h : s.fault ≠ 0) : raise f s = .next s := by rw [raise, if_neg h]

/-- Raising a fault answers a next state that differs in FAULT at most (R606). -/
theorem raise_cases (f : FaultCode) (s : State) :
    ∃ t, raise f s = .next t ∧ t = { s with fault := t.fault } ∧ (t.fault = s.fault ∨ t.fault = f.code) := by
  by_cases h : s.fault = 0
  · exact ⟨_, raise_first f s h, rfl, .inr rfl⟩
  · exact ⟨_, raise_later f s h, rfl, .inl rfl⟩

/-! ## Draws -/

/-- A draw of the mapping's outcome changes the environment's side alone: the ready answer used, if any, is gone. -/
theorem drawGrant_snd (s : State) :
    (drawGrant s).2 = s.setEnv { s.env with grants := s.env.grants.tail, drawn := s.env.drawn + 1 } := by
  cases h : s.env.grants <;> simp only [drawGrant, h] <;> simp [State.setEnv]

/-- A draw of a level word changes the environment's side alone: the ready word used, if any, is gone. -/
theorem drawLevel_snd (s : State) :
    (drawLevel s).2 = s.setEnv { s.env with levels := s.env.levels.tail, drawn := s.env.drawn + 1 } := by
  cases h : s.env.levels <;> simp only [drawLevel, h] <;> simp [State.setEnv]

/-- A draw of the next move is one of the moves, and changes the environment's side alone. -/
theorem drawTurn_lt (n : Nat) (s : State) (hn : 0 < n) : (drawTurn n s).1 < n := by
  unfold drawTurn; split
  · exact hn
  · split <;> exact Nat.mod_lt _ hn

theorem drawTurn_state (n : Nat) (s : State) : ∃ e : Env, (drawTurn n s).2 = s.setEnv e := by
  unfold drawTurn; split
  · exact ⟨s.env, rfl⟩
  · split <;> exact ⟨_, rfl⟩

/-- Where there is one move there is nothing to draw. -/
@[simp] theorem drawTurn_one (s : State) : drawTurn 1 s = (0, s) := rfl

/-! ## The register block -/

/-- The register at a register's offset is that register (R105). -/
@[simp] theorem Reg.ofOffset_offset (r : Reg) : Reg.ofOffset r.offset = some r := by
  cases r <;> (rename_i i; revert i; decide)

theorem Reg.ofOffset_fsel (i : Nat) (h : i < 6) : Reg.ofOffset (0x00 + 4 * i) = some (.fsel ⟨i, h⟩) :=
  Reg.ofOffset_offset (.fsel ⟨i, h⟩)

theorem Reg.ofOffset_set (i : Nat) (h : i < 2) : Reg.ofOffset (0x1C + 4 * i) = some (.set ⟨i, h⟩) :=
  Reg.ofOffset_offset (.set ⟨i, h⟩)

theorem Reg.ofOffset_clr (i : Nat) (h : i < 2) : Reg.ofOffset (0x28 + 4 * i) = some (.clr ⟨i, h⟩) :=
  Reg.ofOffset_offset (.clr ⟨i, h⟩)

theorem Reg.ofOffset_lev (i : Nat) (h : i < 2) : Reg.ofOffset (0x34 + 4 * i) = some (.lev ⟨i, h⟩) :=
  Reg.ofOffset_offset (.lev ⟨i, h⟩)

/-- A read of FSEL[i] (R203). -/
theorem busRead_fsel (i : Nat) (h : i < 6) (s : State) :
    busRead (0x00 + 4 * i) s = some (s.fsel[i], s.logTxn (.read (s.base + (0x00 + 4 * i)) s.fsel[i])) := by
  simp only [busRead, Reg.ofOffset_fsel i h]; rfl

/-- A read of LEV[i] (R203). -/
theorem busRead_lev (i : Nat) (h : i < 2) (s : State) :
    busRead (0x34 + 4 * i) s
      = some ((levelWord i s).1, (levelWord i s).2.logTxn (.read (s.base + (0x34 + 4 * i)) (levelWord i s).1)) := by
  simp only [busRead, Reg.ofOffset_lev i h]

/-- A write of FSEL[i] (R203). -/
theorem busWrite_fsel (i : Nat) (h : i < 6) (v : Word) (s : State) :
    busWrite (0x00 + 4 * i) v s = some ((s.setFsel ⟨i, h⟩ v).logTxn (.write (s.base + (0x00 + 4 * i)) v)) := by
  simp only [busWrite, Reg.ofOffset_fsel i h]

/-- A write of SET[i] (R203). -/
theorem busWrite_set (i : Nat) (h : i < 2) (v : Word) (s : State) :
    busWrite (0x1C + 4 * i) v s
      = some ((s.setLatch (strobeSet i v s.latch)).logTxn (.write (s.base + (0x1C + 4 * i)) v)) := by
  simp only [busWrite, Reg.ofOffset_set i h]

/-- A write of CLR[i] (R203). -/
theorem busWrite_clr (i : Nat) (h : i < 2) (v : Word) (s : State) :
    busWrite (0x28 + 4 * i) v s
      = some ((s.setLatch (strobeClr i v s.latch)).logTxn (.write (s.base + (0x28 + 4 * i)) v)) := by
  simp only [busWrite, Reg.ofOffset_clr i h]

/-- A write transaction, whichever register it reaches, changes FSEL and LATCH at most and is recorded (R203, R204). -/
theorem busWrite_state (off : Nat) (v : Word) (s t : State) (h : busWrite off v s = some t) :
    t = { s with fsel := t.fsel, latch := t.latch, bus := s.bus ++ [.write (s.base + off) v] } := by
  unfold busWrite at h
  split at h <;> first
    | cases h; done
    | (cases h; rfl)

/-- A read of a level word changes the environment's side at most (R205). -/
theorem levelWord_state (i : Nat) (s : State) : ∃ e : Env, (levelWord i s).2 = s.setEnv e := by
  unfold levelWord; split
  · exact ⟨s.env, rfl⟩
  · exact ⟨_, drawLevel_snd s⟩

/-! ## The strobes, bit by bit (R109, R110) -/

theorem getLsbD_strobeMask (i : Nat) (v : Word) (p : Nat) (hp : p < 64) :
    (strobeMask i v).getLsbD p = (decide (32 * i ≤ p) && v.getLsbD (p - 32 * i)) := by
  simp only [strobeMask, BitVec.getLsbD_shiftLeft, BitVec.getLsbD_setWidth, hp, decide_true, Bool.true_and]
  by_cases h : 32 * i ≤ p
  · simp [h, show ¬ p < 32 * i by omega, show p - 32 * i < 64 by omega]
  · simp [h, show p < 32 * i by omega]

theorem getLsbD_strobeSet (i : Nat) (v : Word) (l : BitVec 64) (p : Nat) (hp : p < 64) :
    (strobeSet i v l).getLsbD p = (l.getLsbD p || (decide (32 * i ≤ p) && v.getLsbD (p - 32 * i))) := by
  rw [strobeSet, BitVec.getLsbD_or, getLsbD_strobeMask i v p hp]

theorem getLsbD_strobeClr (i : Nat) (v : Word) (l : BitVec 64) (p : Nat) (hp : p < 64) :
    (strobeClr i v l).getLsbD p = (l.getLsbD p && !(decide (32 * i ≤ p) && v.getLsbD (p - 32 * i))) := by
  rw [strobeClr, BitVec.getLsbD_and, BitVec.getLsbD_not, getLsbD_strobeMask i v p hp, decide_eq_true hp, Bool.true_and]

/-- The one-hot word of a pin, at the pin's register index, is the pin's own latch bit. -/
theorem getLsbD_onehot_latch (pin p : Nat) :
    (decide (32 * bitReg pin ≤ p) && (onehot pin).getLsbD (p - 32 * bitReg pin)) = decide (p = pin) := by
  rw [getLsbD_onehot]
  unfold bitReg bitPos
  by_cases h : p = pin
  · simp [h]; omega
  · simp [h]; omega

/-- A bit of the level word in `loopback` (R115). -/
theorem getLsbD_latchWord (i b : Nat) (l : BitVec 64) (hb : b < 32) : (latchWord i l).getLsbD b = l.getLsbD (32 * i + b) := by
  simp [latchWord, hb]

end Sys2Proof.Machine
end

