-- ==== Sys2Proof/Laws/Requests.lean ====
section
/-! SUPPORT. What the halves of CONFIGURE_MODE and the moves of the request port can answer. -/

namespace Sys2Proof.Machine

/-- CONFIGURE_MODE's read (R451). -/
theorem configureRead_eq (pin : Nat) (h : pin < 60) (c : BitVec 3) (s : State) :
    configureRead pin c s
      = some (⟨fselIndex pin, fselOffset pin, c, s.fsel[fselIndex pin]'((fselIndex_lt_iff pin).mpr h), s.caller⟩,
          s.logTxn (.read (s.base + (0x00 + 4 * fselIndex pin)) (s.fsel[fselIndex pin]'((fselIndex_lt_iff pin).mpr h)))) := by
  simp only [configureRead, busRead_fsel (fselIndex pin) ((fselIndex_lt_iff pin).mpr h)]

/-- CONFIGURE_MODE's write while the mapping exists (R451). -/
theorem configureWrite_mapped (r : Rmw) (done : State → State) (s : State) (hl : s.life = .mapped) (hr : r.reg < 6) :
    configureWrite r done s
      = respond .ok 0 0 (done ((s.setFsel ⟨r.reg, hr⟩ (encodeFsel r.tmp r.off r.code)).logTxn
          (.write (s.base + (0x00 + 4 * r.reg)) (encodeFsel r.tmp r.off r.code)))) := by
  simp only [configureWrite, hl, ne_eq, not_true_eq_false, if_false, busWrite_fsel r.reg hr]

/-- CONFIGURE_MODE's write after the mapping was released (R712). -/
theorem configureWrite_released (r : Rmw) (done : State → State) (s : State) (hl : s.life ≠ .mapped) :
    configureWrite r done s = raise .useAfterRelease s := by
  rw [configureWrite, if_pos hl]

/-- Who may issue (R210, R211, R511): a caller with a request left and none of its own in flight, while the run has not ended with
ADDRESS_MAP_FAILURE and, with SERIALIZED true, nothing is in flight. -/
theorem mem_ready_iff (s : State) (c : Nat) :
    c ∈ s.ready ↔ s.life ≠ .dead ∧ (s.cfg.serialized = true → s.inflight = []) ∧ s.queueOf c ≠ [] ∧ ∀ r ∈ s.inflight, r.caller ≠ c := by
  unfold State.ready
  split
  next h =>
    rw [Bool.and_eq_true, Bool.or_eq_true, bne_iff_ne, Bool.not_eq_true', List.isEmpty_iff] at h
    have hs : s.cfg.serialized = true → s.inflight = [] := fun e => h.2.resolve_left (by simp [e])
    simp only [List.mem_filter, List.mem_range, State.mayIssue, Bool.and_eq_true, Bool.not_eq_true', List.isEmpty_eq_false_iff,
      List.any_eq_false, beq_iff_eq, h.1, ne_eq, not_false_eq_true, true_and]
    refine ⟨fun g => ⟨hs, g.2⟩, fun g => ⟨?_, g.2⟩⟩
    by_contra hc
    exact g.2.1 (by rw [State.queueOf, List.getElem?_eq_none (not_lt.mp hc)]; rfl)
  next h =>
    refine ⟨fun g => absurd g List.not_mem_nil, fun g => absurd ?_ h⟩
    rw [Bool.and_eq_true, Bool.or_eq_true, bne_iff_ne, Bool.not_eq_true', List.isEmpty_iff]
    refine ⟨g.1, ?_⟩
    cases hs : s.cfg.serialized
    · exact .inl rfl
    · exact .inr (g.2.1 hs)

@[simp] theorem State.setEnv_ready (s : State) (e : Env) : (s.setEnv e).ready = s.ready := rfl

@[simp] theorem State.setEnv_queueOf (s : State) (e : Env) (c : Nat) : (s.setEnv e).queueOf c = s.queueOf c := rfl

/-- A move of the port is one of: waiting, the write of a request in flight, the next request of a caller that may issue; what a
draw of the choice changes is the environment's side alone. -/
theorem portMove_cases (s : State) :
    (s.moves = 0 ∧ portMove s = .next s)
    ∨ (∃ k e, k < s.inflight.length ∧ portMove s = finishRmw k (s.setEnv e))
    ∨ (∃ c ∈ s.ready, ∃ e, portMove s = issueRequest c (s.setEnv e)) := by
  by_cases h0 : s.moves = 0
  · exact .inl ⟨h0, by rw [portMove, if_pos h0]⟩
  · right
    obtain ⟨e, he⟩ := drawTurn_state s.moves s
    have hlt := drawTurn_lt s.moves s (Nat.pos_of_ne_zero h0)
    have hp : portMove s
        = if (drawTurn s.moves s).1 < s.inflight.length then finishRmw (drawTurn s.moves s).1 (s.setEnv e)
          else issueRequest (s.ready.getD ((drawTurn s.moves s).1 - s.inflight.length) 0) (s.setEnv e) := by
      rw [portMove, if_neg h0]; simp only [he, State.setEnv_inflight, State.setEnv_ready]
    by_cases hk : (drawTurn s.moves s).1 < s.inflight.length
    · exact .inl ⟨_, e, hk, by rw [hp, if_pos hk]⟩
    · have hr : (drawTurn s.moves s).1 - s.inflight.length < s.ready.length := by unfold State.moves at *; omega
      refine .inr ⟨s.ready[(drawTurn s.moves s).1 - s.inflight.length], List.getElem_mem hr, e, ?_⟩
      rw [hp, if_neg hk, List.getD_eq_getElem _ _ hr]

/-- The one move there is, or, of several, the one the environment's next ready choice names; `e` is the environment's side after. -/
theorem portMove_chosen (s : State) (k : Nat) (e : Env) (hk : k < s.moves)
    (h : (s.moves = 1 ∧ e = s.env)
      ∨ (1 < s.moves ∧ ∃ ts, s.env.turns = k :: ts ∧ e = { s.env with turns := ts, drawn := s.env.drawn + 1 })) :
    portMove s = if k < s.inflight.length then finishRmw k (s.setEnv e)
      else issueRequest (s.ready.getD (k - s.inflight.length) 0) (s.setEnv e) := by
  have hd : drawTurn s.moves s = (k, s.setEnv e) := by
    rcases h with ⟨h1, rfl⟩ | ⟨h1, ts, ht, rfl⟩
    · rw [h1, drawTurn_one, show k = 0 by omega]; rfl
    · rw [drawTurn, if_neg (by omega), ht]; simp only [Nat.mod_eq_of_lt hk]
  rw [portMove, if_neg (by omega), hd]
  rfl

/-- The write of the k-th request in flight while the mapping exists (R451). -/
theorem finishRmw_mapped (s : State) (k : Nat) (r : Rmw) (h : s.inflight[k]? = some r) (hl : s.life = .mapped) (hr : r.reg < 6) :
    finishRmw k s
      = .next ((((s.setFsel ⟨r.reg, hr⟩ (encodeFsel r.tmp r.off r.code)).logTxn
          (.write (s.base + (0x00 + 4 * r.reg)) (encodeFsel r.tmp r.off r.code))).retire k).answer ⟨0, 0, 0⟩) := by
  simp only [finishRmw, h, configureWrite_mapped r _ s hl hr, respond_eq]
  rfl

/-- The write of the k-th request in flight after the mapping was released (R712). -/
theorem finishRmw_released (s : State) (k : Nat) (h : k < s.inflight.length) (hl : s.life ≠ .mapped) :
    finishRmw k s = raise .useAfterRelease s := by
  simp only [finishRmw, List.getElem?_eq_getElem h, configureWrite_released _ _ s hl]

/-- A caller that may issue puts its next request into REQ. -/
theorem issueRequest_ready (s : State) (c : Nat) (h : s.queueOf c ≠ []) :
    ∃ r rs, s.queueOf c = r :: rs ∧ issueRequest c s = .next (s.issueNext c r rs) := by
  cases hq : s.queueOf c with
  | nil       => exact absurd hq h
  | cons r rs => exact ⟨r, rs, rfl, by rw [issueRequest, hq]⟩

/-- After a caller issued, its sequence is the rest and every other caller's is as before. -/
theorem queueOf_issueNext (s : State) (c d : Nat) (r : Request) (rs : List Request) (h : s.queueOf c ≠ []) :
    (s.issueNext c r rs).queueOf d = if d = c then rs else s.queueOf d := by
  have hc : c < s.queues.length := by
    by_contra hc
    exact h (by rw [State.queueOf, List.getElem?_eq_none (not_lt.mp hc)]; rfl)
  simp only [State.queueOf, State.issueNext_queues, List.getElem?_set]
  by_cases hd : c = d
  · subst hd; simp [hc]
  · simp [hd, Ne.symm hd]

end Sys2Proof.Machine
end

