-- ==== Sys2Proof/Laws/Exec.lean ====
section
/-! SUPPORT. What performing a request, and a step, can answer: one lemma per meaning where it passes its checks, and one inversion
lemma each for `exec`, the port and `step`. -/

namespace Sys2Proof.Machine

/-- CONFIGURE_MODE past its checks, SERIALIZED true (R451). -/
theorem execConfigureMode_serialized (s : State) (pin : Nat) (mode : Int) (c : BitVec 3) (hl : s.life = .mapped)
    (hm : modeCode mode = some c) (hi : fselIndex pin < 6) (hs : s.cfg.serialized = true) :
    execConfigureMode pin mode s
      = .next ((((s.logTxn (.read (s.base + (0x00 + 4 * fselIndex pin)) s.fsel[fselIndex pin])).setFsel ⟨fselIndex pin, hi⟩
          (encodeFsel s.fsel[fselIndex pin] (fselOffset pin) c)).logTxn
          (.write (s.base + (0x00 + 4 * fselIndex pin)) (encodeFsel s.fsel[fselIndex pin] (fselOffset pin) c))).answer ⟨0, 0, 0⟩) := by
  have hr : fselInRange pin = true := decide_eq_true hi
  simp only [execConfigureMode, hm, hr, configureRead_eq pin ((fselIndex_lt_iff pin).mp hi)]
  rw [if_neg (not_not.mpr hl), if_pos trivial, if_pos (show (s.logTxn _).cfg.serialized = true from hs),
    configureWrite_mapped _ _ (s.logTxn _) hl hi]
  rfl

/-- CONFIGURE_MODE past its checks, SERIALIZED false: the read, and the request in flight (R211). -/
theorem execConfigureMode_unserialized (s : State) (pin : Nat) (mode : Int) (c : BitVec 3) (hl : s.life = .mapped)
    (hm : modeCode mode = some c) (hi : fselIndex pin < 6) (hs : s.cfg.serialized = false) :
    execConfigureMode pin mode s
      = .next ((s.logTxn (.read (s.base + (0x00 + 4 * fselIndex pin)) s.fsel[fselIndex pin])).defer
          ⟨fselIndex pin, fselOffset pin, c, s.fsel[fselIndex pin], s.caller⟩) := by
  have hr : fselInRange pin = true := decide_eq_true hi
  simp only [execConfigureMode, hm, hr, configureRead_eq pin ((fselIndex_lt_iff pin).mp hi)]
  rw [if_neg (not_not.mpr hl), if_pos trivial, if_neg (show ¬ (s.logTxn _).cfg.serialized = true by simp [hs])]

/-- WRITE_PIN past its checks (R452). -/
theorem execWritePin_mapped (s : State) (pin : Nat) (value : Int) (b : Bool) (hl : s.life = .mapped)
    (hv : pinValue value = some b) (hi : bitReg pin < 2) :
    execWritePin pin value s
      = .next (((s.setLatch (if b then strobeSet (bitReg pin) (onehot pin) s.latch
          else strobeClr (bitReg pin) (onehot pin) s.latch)).logTxn
          (.write (s.base + ((if b then 0x1C else 0x28) + 4 * bitReg pin)) (onehot pin))).answer ⟨0, 0, 0⟩) := by
  have hr : bitInRange pin = true := decide_eq_true hi
  simp only [execWritePin, hv, hr]
  rw [if_neg (not_not.mpr hl), if_pos trivial]
  cases b
  · simp only [Bool.false_eq_true, if_false, busWrite_clr _ hi]; rfl
  · simp only [if_true, busWrite_set _ hi]; rfl

/-- The latch after WRITE_PIN, bit by bit (R452). -/
theorem getLsbD_written (l : BitVec 64) (pin : Nat) (b : Bool) (p : Nat) (hp : p < 64) :
    (if b then strobeSet (bitReg pin) (onehot pin) l else strobeClr (bitReg pin) (onehot pin) l).getLsbD p
      = if p = pin then b else l.getLsbD p := by
  cases b
  · rw [if_neg (by decide), getLsbD_strobeClr _ _ _ _ hp, getLsbD_onehot_latch]
    by_cases h : p = pin <;> simp [h]
  · rw [if_pos rfl, getLsbD_strobeSet _ _ _ _ hp, getLsbD_onehot_latch]
    by_cases h : p = pin <;> simp [h]

/-- READ_PIN past its checks (R453). -/
theorem execReadPin_mapped (s : State) (pin : Nat) (hl : s.life = .mapped) (hi : bitReg pin < 2) :
    execReadPin pin s
      = .next (((levelWord (bitReg pin) s).2.logTxn
          (.read (s.base + (0x34 + 4 * bitReg pin)) (levelWord (bitReg pin) s).1)).answer
          ⟨0, if (levelWord (bitReg pin) s).1.getLsbD (bitPos pin) then 1 else 0, 0⟩) := by
  have hr : bitInRange pin = true := decide_eq_true hi
  simp only [execReadPin, hr, busRead_lev _ hi]
  rw [if_neg (not_not.mpr hl), if_pos trivial]
  rfl

/-- Everything performing a request can do, in the order of its checks: a Register Map answer, one of the three errors, a fault, or
the effect of the request's own rule. -/
theorem exec_cases (i : Instr) (s t : State) (h : exec i s = .next t) :
    (∃ d0 d1, ((∃ p, i = .fselIndex p) ∨ (∃ p, i = .fselOffset p) ∨ (∃ p, i = .bitIndex p)) ∧ t = s.answer ⟨0, d0, d1⟩)
    ∨ (s.life ≠ .mapped ∧ t = s.answer ⟨1, 0, 0⟩)
    ∨ (s.life = .mapped ∧ (∃ p m, i = .configureMode p m ∧ m ≠ 0 ∧ m ≠ 1) ∧ t = s.answer ⟨2, 0, 0⟩)
    ∨ (s.life = .mapped ∧ (∃ p v, i = .writePin p v ∧ v ≠ 0 ∧ v ≠ 1) ∧ t = s.answer ⟨3, 0, 0⟩)
    ∨ (∃ f : FaultCode, f ≠ .useAfterRelease ∧ raise f s = .next t)
    ∨ (∃ p m c, ∃ hi : fselIndex p < 6, i = .configureMode p m ∧ modeCode m = some c ∧ s.life = .mapped ∧ s.cfg.serialized = true
        ∧ t = (((s.logTxn (.read (s.base + (0x00 + 4 * fselIndex p)) s.fsel[fselIndex p])).setFsel ⟨fselIndex p, hi⟩
          (encodeFsel s.fsel[fselIndex p] (fselOffset p) c)).logTxn
          (.write (s.base + (0x00 + 4 * fselIndex p)) (encodeFsel s.fsel[fselIndex p] (fselOffset p) c))).answer ⟨0, 0, 0⟩)
    ∨ (∃ p m c, ∃ hi : fselIndex p < 6, i = .configureMode p m ∧ modeCode m = some c ∧ s.life = .mapped ∧ s.cfg.serialized = false
        ∧ t = (s.logTxn (.read (s.base + (0x00 + 4 * fselIndex p)) s.fsel[fselIndex p])).defer
          ⟨fselIndex p, fselOffset p, c, s.fsel[fselIndex p], s.caller⟩)
    ∨ (∃ p v b, i = .writePin p v ∧ pinValue v = some b ∧ bitReg p < 2 ∧ s.life = .mapped
        ∧ t = ((s.setLatch (if b then strobeSet (bitReg p) (onehot p) s.latch
          else strobeClr (bitReg p) (onehot p) s.latch)).logTxn
          (.write (s.base + ((if b then 0x1C else 0x28) + 4 * bitReg p)) (onehot p))).answer ⟨0, 0, 0⟩)
    ∨ (∃ p w e, i = .readPin p ∧ bitReg p < 2 ∧ s.life = .mapped
        ∧ t = ((s.setEnv e).logTxn (.read (s.base + (0x34 + 4 * bitReg p)) w)).answer
          ⟨0, if w.getLsbD (bitPos p) then 1 else 0, 0⟩)
    ∨ (∃ b z e, i = .bind b z ∧ s.life = .unbound ∧ zextPaddr s.cfg b = s.cfg.gpioBase ∧ z = s.cfg.blockSize.toNat
        ∧ t = (((s.setEnv e).setMapping (zextPaddr s.cfg b) (wordOf z)).setLife .mapped).answer ⟨0, 0, 0⟩)
    ∨ (∃ b z e, i = .bind b z ∧ s.life = .unbound ∧ t = ((s.setEnv e).setLife .dead).answer ⟨4, 0, 0⟩)
    ∨ (i = .unbind ∧ s.life = .mapped ∧ t = (s.setLife .released).answer ⟨0, 0, 0⟩) := by
  cases i with
  | fselIndex p => exact .inl ⟨_, _, .inl ⟨p, rfl⟩, (Host.Outcome.next.inj h).symm⟩
  | fselOffset p => exact .inl ⟨_, _, .inr (.inl ⟨p, rfl⟩), (Host.Outcome.next.inj h).symm⟩
  | bitIndex p => exact .inl ⟨_, _, .inr (.inr ⟨p, rfl⟩), (Host.Outcome.next.inj h).symm⟩
  | configureMode p m =>
    rw [exec] at h
    by_cases hl : s.life = .mapped
    · cases hm : modeCode m with
      | none =>
        simp only [execConfigureMode, hm] at h
        rw [if_neg (not_not.mpr hl)] at h
        exact .inr (.inr (.inl ⟨hl, ⟨p, m, rfl, (modeCode_eq_none_iff m).mp hm⟩, (Host.Outcome.next.inj h).symm⟩))
      | some c =>
        by_cases hi : fselIndex p < 6
        · cases hs : s.cfg.serialized with
          | true =>
            rw [execConfigureMode_serialized s p m c hl hm hi hs] at h
            exact .inr (.inr (.inr (.inr (.inr (.inl ⟨p, m, c, hi, rfl, hm, hl, rfl, (Host.Outcome.next.inj h).symm⟩)))))
          | false =>
            rw [execConfigureMode_unserialized s p m c hl hm hi hs] at h
            exact .inr (.inr (.inr (.inr (.inr (.inr (.inl ⟨p, m, c, hi, rfl, hm, hl, rfl, (Host.Outcome.next.inj h).symm⟩))))))
        · simp only [execConfigureMode, hm, show fselInRange p = false from decide_eq_false hi] at h
          rw [if_neg (not_not.mpr hl), if_neg (by decide)] at h
          exact .inr (.inr (.inr (.inr (.inl ⟨.pinRange, by decide, h⟩))))
    · rw [execConfigureMode, if_pos hl] at h
      exact .inr (.inl ⟨hl, (Host.Outcome.next.inj h).symm⟩)
  | writePin p v =>
    rw [exec] at h
    by_cases hl : s.life = .mapped
    · cases hv : pinValue v with
      | none =>
        simp only [execWritePin, hv] at h
        rw [if_neg (not_not.mpr hl)] at h
        exact .inr (.inr (.inr (.inl ⟨hl, ⟨p, v, rfl, (pinValue_eq_none_iff v).mp hv⟩, (Host.Outcome.next.inj h).symm⟩)))
      | some b =>
        by_cases hi : bitReg p < 2
        · rw [execWritePin_mapped s p v b hl hv hi] at h
          exact .inr (.inr (.inr (.inr (.inr (.inr (.inr (.inl ⟨p, v, b, rfl, hv, hi, hl, (Host.Outcome.next.inj h).symm⟩)))))))
        · simp only [execWritePin, hv, show bitInRange p = false from decide_eq_false hi] at h
          rw [if_neg (not_not.mpr hl), if_neg (by decide)] at h
          exact .inr (.inr (.inr (.inr (.inl ⟨.pinRange, by decide, h⟩))))
    · rw [execWritePin, if_pos hl] at h
      exact .inr (.inl ⟨hl, (Host.Outcome.next.inj h).symm⟩)
  | readPin p =>
    rw [exec] at h
    by_cases hl : s.life = .mapped
    · by_cases hi : bitReg p < 2
      · rw [execReadPin_mapped s p hl hi] at h
        obtain ⟨e, he⟩ := levelWord_state (bitReg p) s
        rw [he] at h
        exact .inr (.inr (.inr (.inr (.inr (.inr (.inr (.inr (.inl ⟨p, _, e, rfl, hi, hl, (Host.Outcome.next.inj h).symm⟩))))))))
      · simp only [execReadPin, show bitInRange p = false from decide_eq_false hi] at h
        rw [if_neg (not_not.mpr hl), if_neg (by decide)] at h
        exact .inr (.inr (.inr (.inr (.inl ⟨.pinRange, by decide, h⟩))))
    · rw [execReadPin, if_pos hl] at h
      exact .inr (.inl ⟨hl, (Host.Outcome.next.inj h).symm⟩)
  | bind b z =>
    rw [exec, execBind] at h
    by_cases hl : s.life = .unbound
    · rw [if_neg (not_not.mpr hl)] at h
      split at h
      · exact .inr (.inr (.inr (.inr (.inl ⟨.bindArgs, by decide, h⟩))))
      next ha =>
        have ha' := not_or.mp ha
        obtain ⟨e, he⟩ : ∃ e, (drawGrant s).2 = s.setEnv e := ⟨_, drawGrant_snd s⟩
        split at h
        next u hu =>
          have hu2 : u = s.setEnv e := by rw [← he, hu]
          subst hu2
          exact .inr (.inr (.inr (.inr (.inr (.inr (.inr (.inr (.inr (.inl
            ⟨b, z, e, rfl, hl, not_not.mp ha'.1, not_not.mp ha'.2, (Host.Outcome.next.inj h).symm⟩)))))))))
        next u hu =>
          have hu2 : u = s.setEnv e := by rw [← he, hu]
          subst hu2
          exact .inr (.inr (.inr (.inr (.inr (.inr (.inr (.inr (.inr (.inr (.inl
            ⟨b, z, e, rfl, hl, (Host.Outcome.next.inj h).symm⟩))))))))))
    · rw [if_pos hl] at h
      exact .inr (.inr (.inr (.inr (.inl ⟨.lifecycle, by decide, h⟩))))
  | unbind =>
    rw [exec, execUnbind] at h
    by_cases hl : s.life = .mapped
    · rw [if_neg (not_not.mpr hl)] at h
      exact .inr (.inr (.inr (.inr (.inr (.inr (.inr (.inr (.inr (.inr (.inr
        ⟨rfl, hl, (Host.Outcome.next.inj h).symm⟩))))))))))
    · rw [if_pos hl] at h
      exact .inr (.inl ⟨hl, (Host.Outcome.next.inj h).symm⟩)

/-- Everything a move of the port can answer: nothing, a fault for use after release, the write of the k-th request in flight, or the
next request of a caller that may issue in REQ. -/
theorem portMove_next_cases (s t : State) (h : portMove s = .next t) :
    t = s
    ∨ (∃ e, s.life ≠ .mapped ∧ s.inflight ≠ [] ∧ raise .useAfterRelease (s.setEnv e) = .next t)
    ∨ (∃ k e r, s.life = .mapped ∧ s.inflight[k]? = some r
        ∧ ((∃ u, busWrite (0x00 + 4 * r.reg) (encodeFsel r.tmp r.off r.code) (s.setEnv e) = some u
            ∧ t = (u.retire k).answer ⟨0, 0, 0⟩)
          ∨ (6 ≤ r.reg ∧ t = (s.setEnv e).setRefused)))
    ∨ (∃ c e r rs, c ∈ s.ready ∧ s.queueOf c = r :: rs ∧ t = (s.setEnv e).issueNext c r rs) := by
  rcases portMove_cases s with ⟨-, hw⟩ | ⟨k, e, hk, hf⟩ | ⟨c, hc, e, hi⟩
  · rw [hw] at h; exact .inl (Host.Outcome.next.inj h).symm
  · rw [hf, finishRmw, show (s.setEnv e).inflight[k]? = some s.inflight[k] by simp [hk]] at h
    by_cases hl : s.life = .mapped
    · refine .inr (.inr (.inl ⟨k, e, s.inflight[k], hl, by simp [hk], ?_⟩))
      dsimp only at h
      rw [configureWrite, if_neg (not_not.mpr (show (s.setEnv e).life = .mapped from hl))] at h
      split at h
      next u hu => exact .inl ⟨u, hu, (Host.Outcome.next.inj h).symm⟩
      next hn =>
        refine .inr ⟨?_, (Host.Outcome.next.inj h).symm⟩
        by_contra hr
        rw [busWrite_fsel _ (not_le.mp hr)] at hn
        cases hn
    · dsimp only at h
      rw [configureWrite_released _ _ (s.setEnv e) hl] at h
      exact .inr (.inl ⟨e, hl, fun he => by simp [he] at hk, h⟩)
  · rw [hi] at h
    obtain ⟨r, rs, hq, hn⟩ := issueRequest_ready (s.setEnv e) c ((mem_ready_iff s c).mp hc).2.2.1
    rw [hn] at h
    exact .inr (.inr (.inr ⟨c, e, r, rs, hc, hq, (Host.Outcome.next.inj h).symm⟩))

/-- Everything a step that answers a next state did: the request held was performed, or refused as reserved, or the port moved. -/
theorem step_cases (s t : State) (h : step s = .next t) :
    s.fault = 0 ∧ s.refused = false
      ∧ ((∃ r i, s.req = some r ∧ decode r = .ok i ∧ exec i s = .next t)
        ∨ (∃ r e, s.req = some r ∧ decode r = .error e ∧ t = s.setRefused)
        ∨ (s.req = none ∧ portMove s = .next t)) := by
  unfold step at h
  split at h
  · cases h
  next hf =>
    split at h
    · cases h
    next hr =>
      refine ⟨not_not.mp hf, by simpa using hr, ?_⟩
      split at h
      next r hq =>
        unfold performRequest at h
        split at h
        next i hd => exact .inl ⟨r, i, hq, hd, h⟩
        next e hd => exact .inr (.inl ⟨r, e, hq, hd, (Host.Outcome.next.inj h).symm⟩)
      next hq => exact .inr (.inr ⟨hq, h⟩)

end Sys2Proof.Machine
end

