-- ==== Sys2Proof/Laws/HostSide.lean ====
section
/-! SUPPORT. What the host issues for an instruction, and for a list of them. -/

namespace Sys2Proof.Machine

theorem hostRequest_wf (i : Instr) (h : i.wf = true) : hostRequest i = some (encode i) := if_pos h

theorem hostRequest_not_wf (i : Instr) (h : i.wf = false) : hostRequest i = none := if_neg (by simp [h])

/-- The requests issued for a list of instructions are those of the ones that fit, in order. -/
theorem filterMap_hostRequest {α : Type} (f : α → Instr) (xs : List α) :
    xs.filterMap (fun x => hostRequest (f x)) = (xs.filter fun x => (f x).wf).map fun x => encode (f x) := by
  induction xs with
  | nil          => rfl
  | cons x xs ih =>
    simp only [List.filterMap_cons, List.filter_cons, ih]
    cases h : (f x).wf
    · rw [hostRequest_not_wf _ h]; rfl
    · rw [hostRequest_wf _ h]; rfl

end Sys2Proof.Machine
end

