-- ==== Sys2Proof/Laws/PerInstr.lean ====
section
/-! SUPPORT. A statement for every instruction as syntax, one lemma per constructor: its W0 is the word R303 gives the request, with no
reserved bit set and OP between 1 and 8 (family `LegalOpcode`). -/

namespace Sys2Proof.Laws.LegalOpcode

/-- No reserved bit is set, and OP is one that R303 assigns. -/
abbrev LegalW0 (w : Word) : Prop := rsvField w = 0 ∧ 1 ≤ (opField w).toNat ∧ (opField w).toNat ≤ 8

/-- The W0 an instruction is encoded with is a legal one (R303, R304). -/
def Statement (i : Instr) : Prop := LegalW0 (encode i).w0

theorem fselIndex (pin : Nat) : Statement (.fselIndex pin) := by
  show LegalW0 0x00000001; decide

theorem fselOffset (pin : Nat) : Statement (.fselOffset pin) := by
  show LegalW0 0x00000002; decide

theorem bitIndex (pin : Nat) : Statement (.bitIndex pin) := by
  show LegalW0 0x00000003; decide

theorem configureMode (pin : Nat) (mode : Int) : Statement (.configureMode pin mode) := by
  show LegalW0 0x00000004; decide

theorem writePin (pin : Nat) (value : Int) : Statement (.writePin pin value) := by
  show LegalW0 0x00000005; decide

theorem readPin (pin : Nat) : Statement (.readPin pin) := by
  show LegalW0 0x00000006; decide

theorem bind (base size : Nat) : Statement (.bind base size) := by
  show LegalW0 0x00000007; decide

theorem unbind : Statement .unbind := by
  show LegalW0 0x00000008; decide

end Sys2Proof.Laws.LegalOpcode
end

