-- ==== Sys2Proof/Tests/Slice0.lean ====
section
/-! SUPPORT. Tests: ill-formed terms refused, words of spec/ decoded, single steps against the vectors of 95_test_vectors.md (named S, V or
P as that file names them), and for every statement with hypotheses a witness that meets them, at the boundary values of each clause. -/

namespace Sys2Proof.Tests

open Sys2Proof Sys2Proof.Machine

/-! ## Helpers -/

/-- The next state an answer gives, if it gives one. -/
def nextOf : Answer → Option State
  | .next t    => some t
  | .fault _   => none
  | .refused _ => none

theorem next_of_isSome (a : Answer) (h : (nextOf a).isSome = true) : ∃ t, a = .next t := by
  cases a with
  | next t    => exact ⟨t, rfl⟩
  | fault _   => cases h
  | refused _ => cases h

/-- An answer whose next state satisfies a test is a next state that does. -/
theorem next_of_any (a : Answer) (p : State → Bool) (h : (nextOf a).any p = true) : ∃ t, a = .next t ∧ p t = true := by
  cases a with
  | next t    => exact ⟨t, rfl, h⟩
  | fault _   => cases h
  | refused _ => cases h

/-- The state after the reference bind of 95_test_vectors.md ("MAPPED"). -/
def mapped : State := { State.reset with life := .mapped, base := 0x10000000, size := 0x50 }

/-- The same in another LIFE. -/
def inLife (l : Life) : State := { mapped with life := l }

/-- MAPPED with LEVEL_MODE external and these levels ready. -/
def external (ls : List Word) : State :=
  { mapped with cfg := { Config.reference with levelMode := .external }, env := ⟨[], ls, [], 0⟩ }

/-- MAPPED with SERIALIZED false. -/
def unserialized : State := { mapped with cfg := { Config.reference with serialized := false } }

/-- A request in flight: `cfg 4, out` after its read of FSEL[0] = 0. -/
def cfg4 : Rmw := ⟨0, 12, 0b001, 0, 0⟩

/-- Another: `cfg 5, out` after its read of FSEL[0] = 0. -/
def cfg5 : Rmw := ⟨0, 15, 0b001, 0, 1⟩

/-- The state with these three words held in REQ. -/
def held (w0 w1 w2 : Word) (s : State) : State := { s with req := some ⟨w0, w1, w2⟩ }

/-- The environment's answer to the coming BIND. -/
def granting (g : Bool) (s : State) : State := { s with env := ⟨[g], [], [], 0⟩ }

/-- RSP and the transactions after a step, for a state with none before. -/
def seen (s : State) : Option (Rsp × List Txn) := (nextOf (step s)).map fun t => (t.rsp, t.bus)

/-! ## Ill-formed terms -/

theorem test_wf_refuses_wide_pins :
    (Instr.fselIndex 0x100000000).wf = false ∧ (Instr.fselOffset 0x100000000).wf = false ∧ (Instr.bitIndex 0x100000000).wf = false
    ∧ (Instr.configureMode 0x100000000 0).wf = false ∧ (Instr.writePin 0x100000000 0).wf = false
    ∧ (Instr.readPin 0x100000000).wf = false ∧ (Instr.readPin 0xFFFFFFFF).wf = true := by decide

theorem test_wf_refuses_wide_values :
    (Instr.configureMode 4 0x80000000).wf = false ∧ (Instr.configureMode 4 (-0x80000001)).wf = false
    ∧ (Instr.writePin 4 0x80000000).wf = false ∧ (Instr.writePin 4 (-0x80000001)).wf = false
    ∧ (Instr.configureMode 4 (-0x80000000)).wf = true := by decide

theorem test_wf_refuses_wide_mappings :
    (Instr.bind 0x100000000 0).wf = false ∧ (Instr.bind 0 0x100000000).wf = false ∧ (Instr.bind 0xFFFFFFFF 0xFFFFFFFF).wf = true := by
  decide

/-- R9: GPIO_BASE and BLOCK_SIZE multiples of 4, BLOCK_SIZE at least 0x3C, GPIO_BASE an address, PADDR_W at least 32, NPINS at most
64, LATCH_INIT zero in loopback. -/
theorem test_config_wf_refuses :
    ({ Config.reference with gpioBase := 0x10000002 } : Config).wf = false
    ∧ ({ Config.reference with gpioBase := 0x100000000 } : Config).wf = false
    ∧ ({ Config.reference with paddrW := 31 } : Config).wf = false
    ∧ ({ Config.reference with blockSize := 0x52 } : Config).wf = false
    ∧ ({ Config.reference with blockSize := 0x38 } : Config).wf = false
    ∧ ({ Config.reference with npins := 65 } : Config).wf = false
    ∧ ({ Config.reference with latchInit := 1 } : Config).wf = false
    ∧ ({ Config.reference with latchInit := 1, levelMode := .external } : Config).wf = true := by decide

/-! ## Decoding: words written out from R300 to R303; W0 in bits 31 to 0, W1 in bits 63 to 32, W2 in bits 95 to 64 -/

theorem test_decode_fsel_index : decodeTableWord 96 0x00000000_0000000B_00000001 = some (.fselIndex 11) := by decide
theorem test_decode_fsel_offset : decodeTableWord 96 0x00000000_00000004_00000002 = some (.fselOffset 4) := by decide
theorem test_decode_bit_index : decodeTableWord 96 0x00000000_00000023_00000003 = some (.bitIndex 35) := by decide
theorem test_decode_configure_mode : decodeTableWord 96 0xFFFFFFFF_00000004_00000004 = some (.configureMode 4 (-1)) := by decide
theorem test_decode_write_pin : decodeTableWord 96 0x00000001_0000003C_00000005 = some (.writePin 60 1) := by decide
theorem test_decode_read_pin_ignores_b : decodeTableWord 96 0xDEADBEEF_FFFFFFFF_00000006 = some (.readPin 0xFFFFFFFF) := by decide
theorem test_decode_bind : decodeTableWord 96 0x00000050_10000000_00000007 = some (.bind 0x10000000 0x50) := by decide
theorem test_decode_unbind_ignores_operands : decodeTableWord 96 0xFFFFFFFF_FFFFFFFF_00000008 = some .unbind := by decide

/-- V8. -/
theorem test_decode_reserved :
    ([0x00000000, 0x00000009, 0x0000000F, 0x00000014, 0x80000006, 0xFFFFFFFF].map fun w0 : Word =>
      match decode ⟨w0, 4, 1⟩ with
      | .ok _    => none
      | .error e => some e)
    = [some .reservedOpcode, some .reservedOpcode, some .reservedOpcode, some .reservedBits, some .reservedBits, some .reservedBits] := by
  decide

/-- The encoder against the words of P1 and P3. -/
theorem test_encode_vectors :
    encode (.bind 0x10000000 0x50) = ⟨0x00000007, 0x10000000, 0x00000050⟩
    ∧ encode (.configureMode 4 (-1)) = ⟨0x00000004, 0x00000004, 0xFFFFFFFF⟩ ∧ encode (.writePin 63 1) = ⟨0x00000005, 0x0000003F, 1⟩
    ∧ encode (.fselOffset 59) = ⟨0x00000002, 0x0000003B, 0⟩ ∧ encode .unbind = ⟨0x00000008, 0, 0⟩ := by decide

/-! ## The Register Map's functions -/

/-- V2. -/
theorem test_encode_fsel :
    encodeFsel 0 27 1 = 0x08000000 ∧ encodeFsel 0xFFFFFFFF 12 0 = 0xFFFF8FFF ∧ encodeFsel 0xFFFFFFFF 12 1 = 0xFFFF9FFF
    ∧ encodeFsel 0xC0000000 27 1 = 0xC8000000 ∧ encodeFsel 0x3FFFFFFF 27 0 = 0x07FFFFFF ∧ encodeFsel 0x00000024 3 1 = 0x0000000C
    ∧ decodeFsel 0xC8000004 27 = 1 ∧ decodeFsel 0xC8000004 0 = 4 := by decide

/-- V3. -/
theorem test_onehot :
    onehot 0 = 1 ∧ onehot 17 = 0x00020000 ∧ onehot 31 = 0x80000000 ∧ onehot 32 = 1 ∧ onehot 35 = 8 ∧ onehot 63 = 0x80000000 := by decide

/-- S7. -/
theorem test_legacy_codes :
    Status.legacy .unmapped = some (-1) ∧ Status.legacy .invalidMode = some (-2) ∧ Status.legacy .invalidValue = some (-2)
    ∧ Status.legacy .ok = none ∧ Status.legacy .addressMapFailure = none := by decide

/-- R308, R309: text read, assembled to the words of P2's `set 17` and V4's `cfg 4, in`. -/
theorem test_assembler_text :
    (asmParse ['s', 'e', 't', ' ', '1', '7', ' ', ';', 'x']).map (·.map Asm.assemble) = some (some ⟨5, 0x11, 1⟩)
    ∧ (asmParse ['c', 'f', 'g', ' ', '0', 'x', '4', ',', ' ', 'i', 'n']).map (·.map Asm.assemble) = some (some ⟨4, 4, 0⟩)
    ∧ (asmParse ['w', 'r', ' ', '8', ',', '-', '1']).map (·.map Asm.assemble) = some (some ⟨5, 8, 0xFFFFFFFF⟩)
    ∧ asmParse [' ', ';', ' ', 'r', 'd', ' ', '8'] = some none ∧ asmParse ['r', 'd'] = none := by decide

/-! ## One step per vector -/

/-- V1, largest pin, in state UNBOUND. -/
theorem test_fsel_index : seen (held 1 0xFFFFFFFF 0 State.reset) = some (⟨0, 0x19999999, 0⟩, []) := by decide
/-- V1, pin 60: an index with no register, returned without error. -/
theorem test_fsel_index_past_end : seen (held 1 60 0xDEADBEEF (inLife .dead)) = some (⟨0, 6, 0⟩, []) := by decide
/-- S1. -/
theorem test_fsel_offset : seen (held 2 4 0 State.reset) = some (⟨0, 12, 0⟩, []) := by decide
/-- V1, largest pin. -/
theorem test_fsel_offset_largest : seen (held 2 0xFFFFFFFF 0 State.reset) = some (⟨0, 15, 0⟩, []) := by decide
/-- S1. -/
theorem test_bit_index : seen (held 3 35 0 State.reset) = some (⟨0, 1, 3⟩, []) := by decide
/-- V1, largest pin. -/
theorem test_bit_index_largest : seen (held 3 0xFFFFFFFF 0 State.reset) = some (⟨0, 0x07FFFFFF, 31⟩, []) := by decide

/-- P3, `cfg 59, out` over FSEL[5] = 0xC0000024: bits 31:30 and the other pins' codes are kept. -/
theorem test_configure_mode :
    seen (held 4 59 1 { mapped with fsel := mapped.fsel.set 5 0xC0000024 })
    = some (⟨0, 0, 0⟩, [.read 0x10000014 0xC0000024, .write 0x10000014 0xC8000024]) := by decide
/-- V4, `cfg 60, 2`: the value is checked before the range. -/
theorem test_configure_mode_checks_value_first : seen (held 4 60 2 mapped) = some (⟨2, 0, 0⟩, []) := by decide

/-- V5, `wr 63, 0`. -/
theorem test_write_pin_clears :
    seen (held 5 63 0 { mapped with latch := 0x8000000000000001 }) = some (⟨0, 0, 0⟩, [.write 0x1000002C 0x80000000])
    ∧ (nextOf (step (held 5 63 0 { mapped with latch := 0x8000000000000001 }))).map (·.latch) = some 1 := by decide
/-- V5, `wr 64, 1`: PIN_RANGE. -/
theorem test_write_pin_range :
    (nextOf (step (held 5 64 1 mapped))).map (fun t => (t.fault, t.bus, t.latch, t.pc)) = some (1, [], 0, 0) := by decide

/-- V6, `rd 8` with W2 = DEADBEEF after `wr 8, 1`. -/
theorem test_read_pin :
    seen (held 6 8 0xDEADBEEF { mapped with latch := 0x100 }) = some (⟨0, 1, 0⟩, [.read 0x10000034 0x00000100]) := by decide
/-- V6 in `external`: the level is the pin's, whatever the latch holds. -/
theorem test_read_pin_external :
    seen (held 6 63 0 (external [0x80000000])) = some (⟨0, 1, 0⟩, [.read 0x10000038 0x80000000]) := by decide

/-- V7, the environment grants. -/
theorem test_bind_granted :
    (nextOf (step (held 7 0x10000000 0x50 (granting true State.reset)))).map (fun t => (t.life, t.base, t.size, t.rsp))
    = some (.mapped, 0x10000000, 0x50, ⟨0, 0, 0⟩) := by decide
/-- P6, the environment refuses. -/
theorem test_bind_refused :
    (nextOf (step (held 7 0x10000000 0x50 (granting false State.reset)))).map (fun t => (t.life, t.rsp, t.pc, t.fault))
    = some (.dead, ⟨4, 0, 0⟩, 1, 0) := by decide

/-- V7, `unbind` from MAPPED: the latches stay. -/
theorem test_unbind :
    (nextOf (step (held 8 0 0 { mapped with latch := 0x100 }))).map (fun t => (t.life, t.rsp, t.latch)) = some (.released, ⟨0, 0, 0⟩, 0x100) := by
  decide
/-- V7, `unbind` from DEAD. -/
theorem test_unbind_unmapped :
    (nextOf (step (held 8 0 0 (inLife .dead)))).map (fun t => (t.life, t.rsp)) = some (.dead, ⟨1, 0, 0⟩) := by decide

/-! ## Witnesses -/

/-- W0[31:4] is not 0, or OP is 0x0 or 0x9 to 0xF. -/
abbrev ReservedW0 (w0 : Word) : Prop := w0.toNat / 16 ≠ 0 ∨ w0.toNat % 16 = 0 ∨ 9 ≤ w0.toNat % 16

theorem witness_ReservedRequestsAreRefused :
    (∀ w0 : Word, (held w0 4 1 mapped).Running ∧ (held w0 4 1 mapped).req = some ⟨w0, 4, 1⟩)
    ∧ (ReservedW0 0x00000000 ∧ ReservedW0 0x00000009 ∧ ReservedW0 0x0000000F ∧ ReservedW0 0x00000010 ∧ ReservedW0 0xFFFFFFF4)
    ∧ ¬ ReservedW0 0x00000001 ∧ ¬ ReservedW0 0x00000008 :=
  ⟨fun _ => ⟨⟨rfl, rfl⟩, rfl⟩, by decide, by decide⟩

/-- A refused state, with REQ as given. -/
def refusedWith (r : Option Request) : State := { mapped with refused := true, req := r }

theorem witness_RefusedBlockStopsByReason :
    (∀ r, (refusedWith r).fault = 0 ∧ (refusedWith r).refused = true ∧ (refusedWith r).req = r)
    ∧ ((0x00000010 : Word).toNat / 16 ≠ 0)
    ∧ ((0x00000000 : Word).toNat / 16 = 0 ∧ (0x00000000 : Word).toNat % 16 = 0)
    ∧ ((0x00000009 : Word).toNat / 16 = 0 ∧ 9 ≤ (0x00000009 : Word).toNat % 16)
    ∧ ((0x00000008 : Word).toNat / 16 = 0 ∧ (0x00000008 : Word).toNat % 16 ≠ 0 ∧ (0x00000008 : Word).toNat % 16 < 9)
    ∧ (held 0x14 4 1 mapped).Running ∧ (∃ t, step (held 0x14 4 1 mapped) = .next t ∧ t.refused = true)
    ∧ (held 9 4 1 mapped).Running ∧ (∃ t, step (held 9 4 1 mapped) = .next t ∧ t.refused = true) :=
  ⟨fun _ => ⟨rfl, rfl, rfl⟩, by decide, by decide, by decide, by decide, ⟨rfl, rfl⟩, next_of_any _ (·.refused) (by decide), ⟨rfl, rfl⟩,
   next_of_any _ (·.refused) (by decide)⟩

theorem witness_DecodeInvertsEncode :
    (Instr.configureMode 0xFFFFFFFF (-0x80000000)).wf = true ∧ (Instr.writePin 0 0x7FFFFFFF).wf = true
    ∧ (Instr.bind 0xFFFFFFFF 0).wf = true ∧ Instr.unbind.wf = true := by decide

theorem witness_EncodeInvertsDecode :
    decode ⟨6, 0xFFFFFFFF, 0xDEADBEEF⟩ = .ok (.readPin 0xFFFFFFFF) ∧ decode ⟨4, 4, 0xFFFFFFFF⟩ = .ok (.configureMode 4 (-1))
    ∧ decode ⟨8, 1, 1⟩ = .ok .unbind := by
  refine ⟨?_, ?_, ?_⟩ <;> (dsimp only [decode]; rw [if_neg (by decide)]; rfl)

theorem witness_StepPerformsTheRequestHeld :
    (held 5 8 1 mapped).Running ∧ (held 5 8 1 mapped).req = some ⟨5, 8, 1⟩ ∧ decode ⟨5, 8, 1⟩ = .ok (.writePin 8 1) :=
  ⟨⟨rfl, rfl⟩, rfl, rfl⟩

theorem witness_FaultedBlockStops :
    ({ mapped with fault := 1 } : State).fault = FaultCode.pinRange.code ∧ ({ mapped with fault := 4 } : State).fault = FaultCode.useAfterRelease.code :=
  ⟨rfl, rfl⟩

/-- DEAD, with a request its caller does not issue. -/
def deadWithRequest : State := (inLife .dead).withProgram [encode (.readPin 8)]

theorem witness_EndedRunWaits : State.reset.GoodEnd ∧ (State.reset.withProgram []).GoodEnd ∧ deadWithRequest.GoodEnd :=
  ⟨⟨⟨rfl, rfl⟩, rfl, rfl, .inl (by decide)⟩, ⟨⟨rfl, rfl⟩, rfl, rfl, .inl (by decide)⟩, ⟨⟨rfl, rfl⟩, rfl, rfl, .inr rfl⟩⟩

theorem witness_HostIssuesRequestsInOrder :
    ∀ s ∈ [State.reset.withProgram [encode (.readPin 8)], deadWithRequest],
      s.Running ∧ s.req = none ∧ s.inflight = [] ∧ s.queues[0]? = some (encode (.readPin 8) :: [])
      ∧ ∀ d q, s.queues[d]? = some q → d ≠ 0 → q = [] := by
  intro s hs
  simp only [List.mem_cons, List.not_mem_nil, or_false] at hs
  rcases hs with rfl | rfl <;> refine ⟨⟨rfl, rfl⟩, rfl, rfl, rfl, ?_⟩ <;> (intro d q hq hd; obtain ⟨d, rfl⟩ := Nat.exists_eq_succ_of_ne_zero hd; cases hq)

/-- `cfg 4, out` of caller 0 in flight, and a request caller 1 may issue, with the choice `k` ready. -/
def twoMoves (k : Nat) : State :=
  { unserialized with inflight := [cfg4], queues := [[], [encode (.writePin 8 1)]], env := ⟨[], [], [k], 0⟩ }

theorem witness_EveryAdmittedMoveIsTaken :
    (∀ k, (twoMoves k).Running ∧ (twoMoves k).req = none) ∧ 1 < (twoMoves 0).moves ∧ 0 < (twoMoves 0).inflight.length
    ∧ (twoMoves 0).env.turns = 0 :: [] ∧ (twoMoves 1).life ≠ .dead
    ∧ ((twoMoves 1).cfg.serialized = true → (twoMoves 1).inflight = []) ∧ (∀ x ∈ (twoMoves 1).inflight, x.caller ≠ 1)
    ∧ (twoMoves 1).queues[1]? = some (encode (.writePin 8 1) :: []) ∧ (State.reset.withProgram [encode (.readPin 8)]).moves = 1
    ∧ (State.reset.withProgram [encode (.readPin 8)]).queues[0]? = some (encode (.readPin 8) :: []) :=
  ⟨fun _ => ⟨⟨rfl, rfl⟩, rfl⟩, by decide, by decide, rfl, by decide, by decide, by decide, by decide, by decide, by decide⟩

/-- With the choice 1 caller 1's request comes into REQ; with the choice 0 no caller's sequence changes. -/
theorem witness_RequestsAreIssuedOnlyWhenAdmitted :
    (∃ t, step (twoMoves 1) = .next t ∧ decide (t.queueOf 1 = [] ∧ t.caller = 1 ∧ t.req ≠ none) = true)
    ∧ (∃ t, step (twoMoves 0) = .next t ∧ decide (t.queueOf 1 = (twoMoves 0).queueOf 1) = true) :=
  ⟨next_of_any _ (fun t => decide (t.queueOf 1 = [] ∧ t.caller = 1 ∧ t.req ≠ none)) (by decide),
   next_of_any _ (fun t => decide (t.queueOf 1 = (twoMoves 0).queueOf 1)) (by decide)⟩

/-- Log entry 13: a caller whose CONFIGURE_MODE is in flight issues nothing, so the one move is that write. -/
theorem test_caller_waits : ({ twoMoves 0 with queues := [[encode (.writePin 8 1)], []] } : State).moves = 1 := by decide

/-- The lowest and the highest field: bit 3 above pin 0's, bits 26 and 31 beside pin 59's. -/
theorem witness_ModeFieldEncoderReplacesOneField :
    (3 < 32 ∧ fselOffset 0 + 2 < 3) ∧ (26 < 32 ∧ 26 < fselOffset 59) ∧ (31 < 32 ∧ fselOffset 59 + 2 < 31) := by decide

theorem witness_PinControllerChecksInOrder :
    State.reset.life ≠ .mapped ∧ (inLife .released).life ≠ .mapped ∧ (inLife .dead).life ≠ .mapped
    ∧ mapped.life = .mapped ∧ mapped.fault = 0 ∧ ((2 : Int) ≠ 0 ∧ (2 : Int) ≠ 1) ∧ ((-1 : Int) ≠ 0 ∧ (-1 : Int) ≠ 1)
    ∧ 60 ≤ 60 ∧ 64 ≤ 64 := by decide

/-- The premises of the statements about CONFIGURE_MODE with SERIALIZED true, at the first and the last pin with a mode field. -/
theorem witness_ConfigureModeRewritesOneRegister :
    mapped.life = .mapped ∧ mapped.cfg.serialized = true ∧ 0 < 60 ∧ 59 < 60 ∧ ((0 : Int) = 0 ∨ (0 : Int) = 1) ∧ ((1 : Int) = 0 ∨ (1 : Int) = 1) := by
  decide

theorem witness_ConfigureModeSetsOnlyThePinsMode :
    mapped.life = .mapped ∧ mapped.cfg.serialized = true ∧ (59 < 60 ∧ 58 < 60 ∧ 58 ≠ 59) ∧ ((1 : Int) = 0 ∨ (1 : Int) = 1) := by decide

theorem witness_ConfiguredPinIsDrivenAtOnce :
    mapped.life = .mapped ∧ mapped.cfg.serialized = true ∧ (59 < 60 ∧ 63 < 64 ∧ 63 ≠ 59) ∧ ((0 : Int) = 0 ∨ (0 : Int) = 1) := by decide

theorem witness_UnserializedConfigureReadsFirst :
    unserialized.life = .mapped ∧ unserialized.cfg.serialized = false ∧ 59 < 60 ∧ ((1 : Int) = 0 ∨ (1 : Int) = 1) := by decide

/-- Two requests in flight and a caller with a request; the second write is chosen. -/
def threeMoves (k : Nat) : State :=
  { unserialized with inflight := [cfg4, cfg5], queues := [[], [], [encode (.readPin 8)]], env := ⟨[], [], [k], 0⟩ }

theorem witness_InFlightConfigureWritesLater :
    (threeMoves 1).Running ∧ (threeMoves 1).req = none ∧ (threeMoves 1).inflight[1]? = some cfg5 ∧ cfg5.reg < 6
    ∧ (threeMoves 1).life = .mapped ∧ 1 < (threeMoves 1).moves ∧ (threeMoves 1).env.turns = 1 :: []
    ∧ ({ unserialized with inflight := [cfg4] } : State).moves = 1 :=
  ⟨⟨rfl, rfl⟩, rfl, by decide, by decide, rfl, by decide, rfl, by decide⟩

/-- V9: FSEL[0] after the write chosen, the other request still in flight. -/
theorem test_second_write_first :
    (nextOf (step (threeMoves 1))).map (fun t => (t.fsel[0], t.inflight, t.pc)) = some (0x00008000, [cfg4], 1) := by decide

/-- V9, `cfg 4, out` against `unbind`, case (ii): after the read and the UNBIND; one request in flight, and two beside a caller with
a request. -/
theorem witness_WriteAfterReleaseFaults :
    ({ threeMoves 1 with life := .released } : State).Running ∧ ({ threeMoves 1 with life := .released } : State).req = none
    ∧ ({ threeMoves 1 with life := .released } : State).life ≠ .mapped ∧ 1 < ({ threeMoves 1 with life := .released } : State).inflight.length
    ∧ 1 < ({ threeMoves 1 with life := .released } : State).moves
    ∧ ({ unserialized with life := .released, inflight := [cfg4] } : State).Running
    ∧ ({ unserialized with life := .released, inflight := [cfg4] } : State).moves = 1
    ∧ ({ unserialized with life := .released, inflight := [cfg4] } : State).inflight ≠ []
    ∧ ∀ q ∈ ({ unserialized with life := .released, inflight := [cfg4] } : State).queues, q = [] :=
  ⟨⟨rfl, rfl⟩, rfl, by decide, by decide, by decide, ⟨rfl, rfl⟩, by decide, by decide, by decide⟩

/-- V9, `wr 8, 1` against `wr 8, 0`. -/
def writers (k : Nat) : State :=
  { unserialized with queues := [[encode (.writePin 8 1)], [encode (.writePin 8 0)]], env := ⟨[], [], [k], 0⟩ }

theorem witness_WritersOfOnePinRace :
    ∀ k < 2, (writers k).Running ∧ (writers k).req = none ∧ (writers k).life = .mapped ∧ (writers k).cfg.serialized = false
      ∧ (writers k).inflight = [] ∧ 8 < 64 ∧ (writers k).queues = [[encode (.writePin 8 1)], [encode (.writePin 8 0)]]
      ∧ (writers k).env.turns = k :: [] :=
  fun _ _ => ⟨⟨rfl, rfl⟩, rfl, rfl, rfl, rfl, by decide, rfl, rfl⟩

/-- V9, `cfg 4, out` against `cfg 5, out`. -/
theorem witness_InterleavedConfiguresLoseAnUpdate :
    unserialized.life = .mapped ∧ unserialized.cfg.serialized = false ∧ unserialized.inflight = [] ∧ 4 < 60 ∧ 4 / 10 = 5 / 10 ∧ 4 ≠ 5
    ∧ ((1 : Int) = 0 ∨ (1 : Int) = 1) := by decide

theorem witness_WritePinSetsOneLatchBit :
    mapped.life = .mapped ∧ 0 < 64 ∧ 63 < 64 ∧ ((0 : Int) = 0 ∨ (0 : Int) = 1) ∧ ((1 : Int) = 0 ∨ (1 : Int) = 1) := by decide

theorem witness_ReadPinReturnsTheLatchInLoopback :
    mapped.life = .mapped ∧ mapped.cfg.levelMode = .loopback ∧ 0 < 64 ∧ 63 < 64 := by decide

theorem witness_ReadPinReturnsADrawWhenExternal :
    (external [0x100]).life = .mapped ∧ (external [0x100]).cfg.levelMode = .external ∧ 63 < 64 ∧ (external [0x100]).env.levels = 0x100 :: []
    ∧ (external []).life = .mapped ∧ (external []).cfg.levelMode = .external ∧ (external []).env.levels = [] := by decide

theorem witness_ExternalReadLearnsNothingOfLatch :
    (external [0x100]).cfg.levelMode = .external ∧ (∃ t, exec (.readPin 8) (external [0x100]) = .next t)
    ∧ (∃ t, exec (.readPin 64) (external []) = .next t) :=
  ⟨rfl, next_of_isSome _ (by decide), next_of_isSome _ (by decide)⟩

theorem witness_PinControllerRequestsAreIdempotent :
    mapped.cfg.serialized = true
    ∧ (∃ t u, exec (.configureMode 59 1) mapped = .next t ∧ exec (.configureMode 59 1) t = .next u)
    ∧ (∃ t u, exec (.writePin 63 1) mapped = .next t ∧ exec (.writePin 63 1) t = .next u)
    ∧ (∃ t u, exec (.readPin 64) mapped = .next t ∧ exec (.readPin 64) t = .next u) :=
  ⟨rfl, ⟨_, _, rfl, rfl⟩, ⟨_, _, rfl, rfl⟩, ⟨_, _, rfl, rfl⟩⟩

theorem witness_WritesToDifferentPinsCommute :
    8 < 64 ∧ 63 < 64 ∧ (8 : Nat) ≠ 63 ∧ ∃ s1 s2 t1 t2, exec (.writePin 8 1) mapped = .next s1 ∧ exec (.writePin 63 0) s1 = .next s2
      ∧ exec (.writePin 63 0) mapped = .next t1 ∧ exec (.writePin 8 1) t1 = .next t2 :=
  ⟨by decide, by decide, by decide, _, _, _, _, rfl, rfl, rfl, rfl⟩

theorem witness_OnlyInputAndOutputCodesAreWritten :
    mapped.cfg.serialized = true ∧ ∃ t, exec (.configureMode 59 1) mapped = .next t ∧ decide (59 < 60 ∧ t.modeOf 59 = 0b001) = true :=
  ⟨rfl, next_of_any _ (fun t => decide (59 < 60 ∧ t.modeOf 59 = 0b001)) (by decide)⟩

theorem witness_BindFaultsOnABreachOfContract :
    Config.reference.wf = true ∧ mapped.cfg = Config.reference ∧ mapped.fault = 0 ∧ mapped.life ≠ .unbound ∧ (inLife .dead).life ≠ .unbound
    ∧ State.reset.life = .unbound ∧ (BitVec.toNat (0x10000004 : Word)) ≠ State.reset.cfg.gpioBase
    ∧ (0x54 : Word) ≠ State.reset.cfg.blockSize := by decide

theorem witness_BindMapsOrFailsByTheEnvironment :
    Config.reference.wf = true ∧ State.reset.cfg = Config.reference ∧ State.reset.life = .unbound
    ∧ (BitVec.toNat (0x10000000 : Word)) = State.reset.cfg.gpioBase ∧ (0x50 : Word) = State.reset.cfg.blockSize
    ∧ State.reset.env.grants = [] ∧ (granting true State.reset).env.grants = true :: []
    ∧ (granting false State.reset).env.grants = false :: [] := by decide

theorem witness_OnlyBindAndUnbindChangeLife :
    (∃ t, step (held 5 8 1 mapped) = .next t ∧ decide (t.life = .mapped) = true)
    ∧ (∃ t, step (held 7 0x10000000 0x50 (granting true State.reset)) = .next t ∧ decide (t.life = .mapped) = true)
    ∧ (∃ t, step (held 7 0x10000000 0x50 (granting false State.reset)) = .next t ∧ decide (t.life = .dead) = true)
    ∧ (∃ t, step (held 8 0 0 mapped) = .next t ∧ decide (t.life = .released) = true) :=
  ⟨next_of_any _ (fun t => decide (t.life = .mapped)) (by decide), next_of_any _ (fun t => decide (t.life = .mapped)) (by decide),
   next_of_any _ (fun t => decide (t.life = .dead)) (by decide), next_of_any _ (fun t => decide (t.life = .released)) (by decide)⟩

/-- Does the state hold a response of this status, one request later. -/
def answered (st : Word) (t : State) : Bool := decide (t.pc = 1 ∧ t.rsp.status = st)

theorem witness_ErrorsHaveNoSideEffect :
    (∃ t, exec (.readPin 8) State.reset = .next t ∧ answered 1 t = true)
    ∧ (∃ t, exec (.configureMode 60 2) mapped = .next t ∧ answered 2 t = true)
    ∧ (∃ t, exec (.writePin 64 (-1)) mapped = .next t ∧ answered 3 t = true)
    ∧ (∃ t, exec (.bind 0x10000000 0x50) (granting false State.reset) = .next t ∧ answered 4 t = true) :=
  ⟨next_of_any _ (answered 1) (by decide), next_of_any _ (answered 2) (by decide), next_of_any _ (answered 3) (by decide),
   next_of_any _ (answered 4) (by decide)⟩

/-- Does the state hold this fault code. -/
def faulted (c : BitVec 8) (t : State) : Bool := decide (t.fault = c)

theorem witness_FaultsChangeOnlyFault :
    (∃ t, step (held 6 64 0 mapped) = .next t ∧ faulted 1 t = true)
    ∧ (∃ t, step (held 7 0x10000000 0x50 mapped) = .next t ∧ faulted 2 t = true)
    ∧ (∃ t, step (held 7 0 0 State.reset) = .next t ∧ faulted 3 t = true)
    ∧ (∃ t, step ({ unserialized with life := .released, inflight := [cfg4] } : State) = .next t ∧ faulted 4 t = true) :=
  ⟨next_of_any _ (faulted 1) (by decide), next_of_any _ (faulted 2) (by decide), next_of_any _ (faulted 3) (by decide),
   next_of_any _ (faulted 4) (by decide)⟩

theorem witness_PcCountsResponses :
    (∃ t, exec (.writePin 63 1) mapped = .next t ∧ answered 0 t = true)
    ∧ (∃ t, exec (.writePin 64 1) mapped = .next t ∧ faulted 1 t = true)
    ∧ (∃ t, exec (.configureMode 59 1) unserialized = .next t ∧ decide (t.inflight.length = 1) = true)
    ∧ (∃ t, finishRmw 1 (threeMoves 1) = .next t ∧ answered 0 t = true)
    ∧ (∃ t, finishRmw 0 { threeMoves 0 with life := .released } = .next t ∧ faulted 4 t = true) :=
  ⟨next_of_any _ (answered 0) (by decide), next_of_any _ (faulted 1) (by decide),
   next_of_any _ (fun t => decide (t.inflight.length = 1)) (by decide), next_of_any _ (answered 0) (by decide),
   next_of_any _ (faulted 4) (by decide)⟩

theorem witness_FaultAndRefusalAreSticky :
    ({ mapped with fault := 4 } : State).fault ≠ 0 ∧ ∃ t, exec (.readPin 64) { mapped with fault := 4 } = .next t ∧ faulted 4 t = true :=
  ⟨by decide, next_of_any _ (faulted 4) (by decide)⟩

theorem witness_ResetValuesAreTheSpecs : Config.reference.wf = true ∧ Config.reference.levelMode = .loopback := by decide

theorem witness_BlockInvariantAtReset :
    Config.reference.wf = true
    ∧ ({ Config.reference with blockSize := 0x3C, paddrW := 40, gpioBase := 0xFE00200000, levelMode := .external, serialized := false } : Config).wf = true := by
  decide

theorem mapped_inv (w0 w1 w2 : Word) : (held w0 w1 w2 mapped).Inv where
  params := (by decide : Config.reference.wf = true)
  handle := fun _ => ⟨rfl, rfl⟩
  bus := fun _ h => nomatch h
  serial := fun _ => rfl
  flight := fun _ h => nomatch h
  before := fun _ => rfl
  callers := List.nodup_nil
  holder := fun _ h => nomatch h
  faults := (by decide : (0#8).toNat ≤ 4)
  status := (by decide : (0#32).toNat ≤ 4)
  evtSpan := (by decide : mapped.evt.length = (mapped.cfg.blockSize.toNat - 0x3C) / 4)

theorem witness_EveryStepKeepsTheBlockInvariant :
    (held 4 59 1 mapped).Inv ∧ ∃ t, step (held 4 59 1 mapped) = .next t ∧ decide (t.bus.length = 2) = true :=
  ⟨mapped_inv _ _ _, next_of_any _ (fun t => decide (t.bus.length = 2)) (by decide)⟩

/-- The highest register, LEV[1], by the last pin. -/
theorem witness_TransactionsStayInTheMappedWindow :
    (held 6 63 0 mapped).Inv
    ∧ (∃ t, step (held 6 63 0 mapped) = .next t ∧ decide (t.bus = (held 6 63 0 mapped).bus ++ [.read 0x10000038 0]) = true) :=
  ⟨mapped_inv _ _ _, next_of_any _ (fun t => decide (t.bus = (held 6 63 0 mapped).bus ++ [.read 0x10000038 0])) (by decide)⟩

theorem witness_NoRegisterAccessWhileUnmapped :
    (held 4 4 1 (inLife .released)).life ≠ .mapped ∧ ∃ t, step (held 4 4 1 (inLife .released)) = .next t :=
  ⟨by decide, next_of_isSome _ (by decide)⟩

theorem witness_ReservedRegistersAreNeverTouched : ∃ t, step (held 5 63 1 mapped) = .next t := next_of_isSome _ (by decide)

theorem witness_AtMostTwoTransactionsAStep :
    (∃ t, step (held 8 0 0 mapped) = .next t ∧ decide (t.bus.length = 0) = true)
    ∧ (∃ t, step (held 4 59 1 mapped) = .next t ∧ decide (t.bus.length = 2) = true) :=
  ⟨next_of_any _ (fun t => decide (t.bus.length = 0)) (by decide), next_of_any _ (fun t => decide (t.bus.length = 2)) (by decide)⟩

/-- Reads of SET[0], CLR[1], a reserved word, EVT and of one byte of FSEL[0]; writes of LEV[0], of EVT, and of a word of two bits
to SET[0]; and that a read of LEV[1] is none of these. -/
theorem witness_OtherRawAccessesAreRefused :
    (∀ off ∈ [0x18, 0x1C, 0x2C, 0x3C, 0x02], ¬ ((∃ i < 6, off = 4 * i) ∨ (∃ i < 2, off = 0x34 + 4 * i)))
    ∧ (1 : Nat) ≠ 4 ∧ State.reset.life ≠ .mapped
    ∧ (∀ off ∈ [0x34, 0x3C], ¬ ((∃ i < 6, off = 4 * i) ∨ ((∃ i < 2, off = 0x1C + 4 * i ∨ off = 0x28 + 4 * i) ∧ ∃ b < 32, (1 : Word) = 1#32 <<< b)))
    ∧ ¬ ((∃ i < 6, 0x1C = 4 * i) ∨ ((∃ i < 2, 0x1C = 0x1C + 4 * i ∨ 0x1C = 0x28 + 4 * i) ∧ ∃ b < 32, (3 : Word) = 1#32 <<< b))
    ∧ (∃ i < 2, 0x38 = 0x34 + 4 * i) := by decide

theorem witness_StartupAndShutdownProgramsKeepTheirOrder :
    Config.reference.gpioBase < 2 ^ 32 ∧ (∀ m ∈ [((0 : Nat), (0 : Int)), (0xFFFFFFFF, -0x80000000)], m.1 < 2 ^ 32 ∧ -2 ^ 31 ≤ m.2 ∧ m.2 < 2 ^ 31)
    ∧ (∀ d ∈ [SafeDrive.write 8 0, SafeDrive.configure 0xFFFFFFFF 0x7FFFFFFF], (safeDriveInstr d).wf = true)
    ∧ 2 ^ 32 ≤ ({ Config.reference with gpioBase := 0x100000000 } : Config).gpioBase := by decide

/-- R510, R703, and log entry 33: the entry with a pin of 33 bits is left out, and a base of 33 bits leaves nothing to issue. -/
theorem test_startup_and_shutdown :
    startupProgram Config.reference [(4, 0), (0x100000005, 1), (8, 1)] = [⟨7, 0x10000000, 0x50⟩, ⟨4, 4, 0⟩, ⟨4, 8, 1⟩]
    ∧ startupProgram { Config.reference with gpioBase := 0x100000000 } [(4, 0)] = []
    ∧ shutdownProgram [.write 8 0, .write 9 0x100000001, .configure 8 0] = [⟨5, 8, 0⟩, ⟨4, 8, 0⟩, ⟨8, 0, 0⟩] := by decide

/-- Each bound at its edge. -/
theorem witness_AttributeBridgeKeepsItsContract :
    (0xFFFFFFFF : Nat) < 2 ^ 32 ∧ (-2 ^ 31 : Int) ≤ -2147483648 ∧ (-2147483648 : Int) < 2 ^ 31 ∧ (-2 ^ 31 : Int) ≤ 2147483647
    ∧ (2147483647 : Int) < 2 ^ 31 ∧ 2 ^ 32 ≤ (0x100000000 : Nat) ∧ (-2147483649 : Int) < -2 ^ 31 ∧ (2 ^ 31 : Int) ≤ 2147483648
    ∧ (Rsp.mk 1 0 0).status ≠ 0 := by decide

/-- S8, and log entry 35: an UNMAPPED response is not shown as the level 0. -/
theorem test_bridge_reply :
    bridgeReply ⟨0, 1, 0⟩ = some [0x31, 0x0A] ∧ bridgeReply ⟨0, 0, 0⟩ = some [0x30, 0x0A] ∧ bridgeReply ⟨1, 0, 0⟩ = none := by decide

/-- A value of 33 bits is not issued as the value 0. -/
theorem test_bridge_wraps_nothing : bridgeWrite (some 8) (some 4294967296) = none := by decide

end Sys2Proof.Tests
end

/-! # The state: what a request may change, and the invariant every step keeps -/

/-! ## How a request ends, and what no request touches -/

namespace Sys2Proof.Machine

/-- `t` is `s` after a response: LIFE, BASE, SIZE, the registers, the latches, the transactions and the environment's side may have
changed before it; RSP, `pc` and REQ changed by it. -/
def State.RespondsTo (s t : State) : Prop :=
  t = State.answer { s with life := t.life, base := t.base, size := t.size, fsel := t.fsel, latch := t.latch, bus := t.bus,
                            env := t.env } t.rsp

/-- A fault raised changes FAULT alone. -/
theorem raise_next (f : FaultCode) (s t : State) (h : raise f s = .next t) :
    t = { s with fault := t.fault } ∧ (t.fault = s.fault ∨ t.fault = f.code) := by
  obtain ⟨u, hu, hst⟩ := raise_cases f s
  obtain rfl : u = t := Host.Outcome.next.inj (hu.symm.trans h)
  exact hst

/-- The three ways a request ends: a fault, a response with a named status, or (SERIALIZED false) its read alone (R104, R211, R606). -/
theorem exec_ends (i : Instr) (s t : State) (h : exec i s = .next t) :
    (∃ f, raise f s = .next t)
    ∨ (s.RespondsTo t ∧ t.rsp.status.toNat ≤ 4)
    ∨ (s.cfg.serialized = false ∧ ∃ x r, t = (s.logTxn x).defer r) := by
  rcases exec_cases i s t h with ⟨_, _, -, rfl⟩ | ⟨-, rfl⟩ | ⟨-, -, rfl⟩ | ⟨-, -, rfl⟩ | ⟨f, -, hf⟩
    | ⟨_, _, _, _, -, -, -, -, rfl⟩ | ⟨_, _, _, _, -, -, -, hs, rfl⟩ | ⟨_, _, _, -, -, -, -, rfl⟩ | ⟨_, _, _, -, -, -, rfl⟩
    | ⟨_, _, _, -, -, -, -, rfl⟩ | ⟨_, _, _, -, -, rfl⟩ | ⟨-, -, rfl⟩
  case inr.inr.inr.inr.inl => exact .inl ⟨f, hf⟩
  case inr.inr.inr.inr.inr.inr.inl => exact .inr (.inr ⟨hs, _, _, rfl⟩)
  all_goals exact .inr (.inl ⟨rfl, by simp⟩)

/-- No request changes the parameters, the reserved words, EVT, REFUSED or what the callers have still to issue. -/
theorem exec_frame (i : Instr) (s t : State) (h : exec i s = .next t) :
    t.cfg = s.cfg ∧ t.rsvd = s.rsvd ∧ t.evt = s.evt ∧ t.refused = s.refused ∧ t.queues = s.queues := by
  rcases exec_ends i s t h with ⟨f, hf⟩ | ⟨ht, -⟩ | ⟨-, x, r, rfl⟩
  · rw [(raise_next f s t hf).1]
    exact ⟨rfl, rfl, rfl, rfl, rfl⟩
  · rw [ht]
    exact ⟨rfl, rfl, rfl, rfl, rfl⟩
  · exact ⟨rfl, rfl, rfl, rfl, rfl⟩

/-- Everything the write of the k-th request in flight can answer. The register index of a state no run reaches may name no register
of FSEL, so the write is given by its transaction. -/
theorem finishRmw_next_cases (k : Nat) (s t : State) (h : finishRmw k s = .next t) :
    t = s ∨ raise .useAfterRelease s = .next t ∨ t = s.setRefused
    ∨ ∃ off v u, busWrite off v s = some u ∧ t = (u.retire k).answer ⟨0, 0, 0⟩ := by
  unfold finishRmw at h
  split at h
  next r _ =>
    by_cases hl : s.life = .mapped
    · rw [configureWrite, if_neg (not_not.mpr hl)] at h
      split at h
      next u hu => exact .inr (.inr (.inr ⟨_, _, u, hu, (Host.Outcome.next.inj h).symm⟩))
      next => exact .inr (.inr (.inl (Host.Outcome.next.inj h).symm))
    · rw [configureWrite_released _ _ _ hl] at h
      exact .inr (.inl h)
  next => exact .inl (Host.Outcome.next.inj h).symm

/-- Settles O37, by the three ways a request ends. -/
theorem pcCountsResponses : Obligations.PcCountsResponses := by
  unfold Obligations.PcCountsResponses
  refine fun s t => ⟨fun i h => ?_, fun k h => ?_⟩
  · rcases exec_ends i s t h with ⟨f, hf⟩ | ⟨ht, hst⟩ | ⟨hs, x, r, rfl⟩
    · have ht := (raise_next f s t hf).1
      exact .inr (.inl ⟨(congrArg State.pc ht :), (congrArg State.rsp ht :), ht⟩)
    · exact .inl ⟨(congrArg State.pc ht :), (congrArg State.req ht :), (congrArg State.fault ht :), hst⟩
    · exact .inr (.inr ⟨rfl, rfl, hs, List.length_append⟩)
  · rcases finishRmw_next_cases k s t h with rfl | hf | rfl | ⟨off, v, u, hu, rfl⟩
    · exact .inr ⟨rfl, rfl, rfl⟩
    · have ht := (raise_next _ s t hf).1
      exact .inr ⟨(congrArg State.pc ht :), (congrArg State.rsp ht :), (congrArg State.inflight ht :)⟩
    · exact .inr ⟨rfl, rfl, rfl⟩
    · rw [busWrite_state off v s u hu]
      exact .inl ⟨rfl, rfl, rfl, rfl⟩

/-- Settles O38: only a first fault writes FAULT, and no request writes REFUSED. -/
theorem faultAndRefusalAreSticky : Obligations.FaultAndRefusalAreSticky := by
  unfold Obligations.FaultAndRefusalAreSticky
  intro i s t h
  obtain ⟨-, -, -, hr, -⟩ := exec_frame i s t h
  refine ⟨fun hf => ?_, hr⟩
  rcases exec_ends i s t h with ⟨f, hx⟩ | ⟨ht, -⟩ | ⟨-, x, r, rfl⟩
  · rw [raise_later f s hf] at hx
    exact congrArg State.fault (Host.Outcome.next.inj hx).symm
  · exact (congrArg State.fault ht :)
  · rfl

end Sys2Proof.Machine

/-! ## What a step does: the request held, or a move of the port -/

namespace Sys2Proof.Machine

/-- A running block performs the request it holds (R120). -/
theorem step_of_req (s : State) (r : Request) (hr : s.Running) (hq : s.req = some r) : step s = performRequest r s := by
  obtain ⟨hf, hre⟩ := hr
  simp only [step, hf, hre, hq, ne_eq, not_true_eq_false, Bool.false_eq_true, if_false]

/-- A running block that holds no request makes a move of the port. -/
theorem step_of_no_req (s : State) (hr : s.Running) (hq : s.req = none) : step s = portMove s := by
  obtain ⟨hf, hre⟩ := hr
  simp only [step, hf, hre, hq, ne_eq, not_true_eq_false, Bool.false_eq_true, if_false]

/-- Settles O6: a running block performs the request it holds, as it decodes. -/
theorem stepPerformsTheRequestHeld : Obligations.StepPerformsTheRequestHeld := by
  unfold Obligations.StepPerformsTheRequestHeld
  intro s r i hr hq hd
  rw [step_of_req s r hr hq, performRequest, hd]

/-- A caller is listed once among those that may issue. -/
theorem ready_nodup (s : State) : s.ready.Nodup := by
  unfold State.ready
  split
  · exact List.nodup_range.filter _
  · exact List.nodup_nil

/-- The only caller that may issue is the list of those that may. -/
theorem ready_eq_singleton (s : State) (c : Nat) (h : ∀ d, d ∈ s.ready ↔ d = c) : s.ready = [c] :=
  List.perm_singleton.mp
    ((List.perm_ext_iff_of_nodup (ready_nodup s) (List.nodup_singleton c)).mpr fun d => (h d).trans List.mem_singleton.symm)

/-- After ADDRESS_MAP_FAILURE no caller issues (R511). -/
theorem ready_dead (s : State) (h : s.life = .dead) : s.ready = [] :=
  List.eq_nil_iff_forall_not_mem.mpr fun c hc => ((mem_ready_iff s c).mp hc).1 h

/-- With nothing in flight and one caller that may issue, the port issues that caller's next request (R104, R210). -/
theorem portMove_lone_caller (s : State) (c : Nat) (hi : s.inflight = []) (hr : s.ready = [c]) :
    portMove s = issueRequest c s := by
  have h1 : s.moves = 1 := by simp [State.moves, hi, hr]
  rw [portMove_chosen s 0 s.env (by omega) (.inl ⟨h1, rfl⟩), hi, hr]
  rfl

/-- Settles O9: the lone caller with a request left is the one that may issue. -/
theorem hostIssuesRequestsInOrder : Obligations.HostIssuesRequestsInOrder := by
  unfold Obligations.HostIssuesRequestsInOrder
  intro s c r rest hrun hreq hin hq hothers
  rw [step_of_no_req s hrun hreq]
  by_cases hd : s.life = .dead
  · have h0 : s.moves = 0 := by simp [State.moves, hin, ready_dead s hd]
    rw [if_pos hd, portMove, if_pos h0]
  · have hqc : s.queueOf c = r :: rest := by rw [State.queueOf, hq]; rfl
    have hqd : ∀ d, s.queueOf d ≠ [] ↔ d = c := fun d => by
      refine ⟨fun hne => by_contra fun hdc => hne ?_, fun h => by simp [h, hqc]⟩
      cases hsd : s.queues[d]? with
      | none   => rw [State.queueOf, hsd]; rfl
      | some q => rw [State.queueOf, hsd, hothers d q hsd hdc]; rfl
    have hready : s.ready = [c] := ready_eq_singleton s c fun d => by
      rw [mem_ready_iff, hqd d, hin]
      simp [hd]
    rw [if_neg hd, portMove_lone_caller s c hin hready, issueRequest, hqc]
    rfl

/-- No move of the port changes the parameters, the reserved words or EVT. -/
theorem portMove_frame (s t : State) (h : portMove s = .next t) : t.cfg = s.cfg ∧ t.rsvd = s.rsvd ∧ t.evt = s.evt := by
  rcases portMove_next_cases s t h with rfl | ⟨e, -, -, hf⟩ | ⟨k, e, r, -, -, ⟨u, hu, rfl⟩ | ⟨-, rfl⟩⟩ | ⟨c, e, r, rs, -, -, rfl⟩
  · exact ⟨rfl, rfl, rfl⟩
  · rw [(raise_next _ _ t hf).1]
    exact ⟨rfl, rfl, rfl⟩
  · rw [busWrite_state _ _ _ u hu]
    exact ⟨rfl, rfl, rfl⟩
  · exact ⟨rfl, rfl, rfl⟩
  · exact ⟨rfl, rfl, rfl⟩

/-- Settles O44, by the frames of a request and of a move of the port. -/
theorem reservedRegistersAreNeverTouched : Obligations.ReservedRegistersAreNeverTouched := by
  unfold Obligations.ReservedRegistersAreNeverTouched
  intro s t h
  obtain ⟨-, -, ⟨r, i, -, -, he⟩ | ⟨r, e, -, -, rfl⟩ | ⟨-, hp⟩⟩ := step_cases s t h
  · obtain ⟨hcfg, hrsvd, hevt, -, -⟩ := exec_frame i s t he
    exact ⟨hrsvd, hevt, hcfg⟩
  · exact ⟨rfl, rfl, rfl⟩
  · obtain ⟨hcfg, hrsvd, hevt⟩ := portMove_frame s t hp
    exact ⟨hrsvd, hevt, hcfg⟩

/-- A move of the port leaves the callers' sequences as they were, or issues the next request of a caller that may. -/
theorem portMove_queues (s t : State) (h : portMove s = .next t) :
    t.queues = s.queues ∨ ∃ c e r rs, c ∈ s.ready ∧ s.queueOf c = r :: rs ∧ t = (s.setEnv e).issueNext c r rs := by
  rcases portMove_next_cases s t h with rfl | ⟨e, -, -, hf⟩ | ⟨k, e, r, -, -, ⟨u, hu, rfl⟩ | ⟨-, rfl⟩⟩ | hissue
  · exact .inl rfl
  · exact .inl (congrArg State.queues (raise_next _ _ t hf).1 :)
  · exact .inl (congrArg State.queues (busWrite_state _ _ _ u hu) :)
  · exact .inl rfl
  · exact .inr hissue

/-- Settles O49: of all a step can do, the issue by a caller that may alone changes a sequence. -/
theorem requestsAreIssuedOnlyWhenAdmitted : Obligations.RequestsAreIssuedOnlyWhenAdmitted := by
  unfold Obligations.RequestsAreIssuedOnlyWhenAdmitted
  intro s t h c
  have same : t.queues = s.queues → t.queueOf c = s.queueOf c := fun hq => by rw [State.queueOf, hq, State.queueOf]
  obtain ⟨-, -, ⟨r, i, -, -, he⟩ | ⟨r, e, -, -, rfl⟩ | ⟨hreq, hp⟩⟩ := step_cases s t h
  · obtain ⟨-, -, -, -, hq⟩ := exec_frame i s t he
    exact .inl (same hq)
  · exact .inl rfl
  · obtain hq | ⟨d, e, r, rs, hd, hqd, rfl⟩ := portMove_queues s t hp
    · exact .inl (same hq)
    · obtain ⟨hdead, hser, hne, hwait⟩ := (mem_ready_iff s d).mp hd
      have hqt := queueOf_issueNext (s.setEnv e) d c r rs hne
      by_cases hcd : c = d
      · subst hcd
        rw [if_pos rfl] at hqt
        exact .inr ⟨r, by rw [hqt, hqd], rfl, hreq, hwait, hser, hdead⟩
      · rw [if_neg hcd] at hqt
        exact .inl hqt

end Sys2Proof.Machine

/-! ## The invariant: each operation on the state keeps it, so every request, every move and every step does -/

namespace Sys2Proof.Machine

/-! ### One rule for each operation -/

theorem State.Inv.answer {s : State} (h : s.Inv) (r : Rsp) (hr : r.status.toNat ≤ 4) : (s.answer r).Inv :=
  { h with holder := fun hn => absurd rfl hn, status := hr }

theorem State.Inv.setFault {s : State} (h : s.Inv) (c : BitVec 8) (hc : c.toNat ≤ 4) : (s.setFault c).Inv :=
  { h with faults := hc }

theorem State.Inv.setRefused {s : State} (h : s.Inv) : s.setRefused.Inv := { h with }

theorem State.Inv.setEnv {s : State} (h : s.Inv) (e : Env) : (s.setEnv e).Inv := { h with }

theorem State.Inv.setLatch {s : State} (h : s.Inv) (l : BitVec 64) : (s.setLatch l).Inv := { h with }

theorem State.Inv.setFsel {s : State} (h : s.Inv) (i : Fin 6) (v : Word) : (s.setFsel i v).Inv := { h with }

theorem State.Inv.logTxn {s : State} (h : s.Inv) (x : Txn) (hx : x.Legal s.cfg.gpioBase) : (s.logTxn x).Inv :=
  { h with bus := List.forall_mem_append.mpr ⟨h.bus, List.forall_mem_singleton.mpr hx⟩ }

/-- The handle is written while no mapping exists. -/
theorem State.Inv.setMapping {s : State} (h : s.Inv) (hl : s.life ≠ .mapped) (b : Nat) (z : Word) : (s.setMapping b z).Inv :=
  { h with handle := fun hm => absurd hm hl }

theorem State.Inv.setLife {s : State} (h : s.Inv) (l : Life)
    (hm : l = .mapped → s.base = s.cfg.gpioBase ∧ s.size = s.cfg.blockSize) (hi : l = .unbound ∨ l = .dead → s.inflight = []) :
    (s.setLife l).Inv :=
  { h with handle := hm, before := hi }

/-- The request in REQ is left in flight: its caller had none there, and now holds REQ no more. -/
theorem State.Inv.defer {s : State} (h : s.Inv) (r : Rmw) (hr : r.Made) (hc : r.caller = s.caller) (hq : s.req ≠ none)
    (hs : s.cfg.serialized = false) (hl : s.life = .mapped) : (s.defer r).Inv :=
  { h with
    serial := fun (hs' : s.cfg.serialized = true) => by simp [hs] at hs'
    flight := List.forall_mem_append.mpr ⟨h.flight, List.forall_mem_singleton.mpr hr⟩
    before := fun (hl' : s.life = .unbound ∨ s.life = .dead) => by simp [hl] at hl'
    callers := by
      have hnot : ∀ a ∈ s.inflight.map Rmw.caller, a ≠ r.caller := fun a ha hac => h.holder hq (hc ▸ hac ▸ ha)
      simpa [State.defer, List.nodup_append, h.callers] using hnot
    holder := fun hn => absurd rfl hn }

theorem State.Inv.retire {s : State} (h : s.Inv) (k : Nat) : (s.retire k).Inv :=
  have hsub : (s.inflight.eraseIdx k).Sublist s.inflight := List.eraseIdx_sublist _ _
  have hempty : s.inflight = [] → s.inflight.eraseIdx k = [] := fun hn => by rw [hn, List.eraseIdx_nil]
  { h with
    serial := fun hs => hempty (h.serial hs)
    flight := fun r hr => h.flight r (hsub.subset hr)
    before := fun hl => hempty (h.before hl)
    callers := h.callers.sublist (hsub.map _)
    holder := fun hq hc => h.holder hq ((hsub.map _).subset hc) }

/-- A caller that waits for no response puts its next request into REQ. -/
theorem State.Inv.issueNext {s : State} (h : s.Inv) (c : Nat) (r : Request) (rs : List Request)
    (hw : ∀ x ∈ s.inflight, x.caller ≠ c) : (s.issueNext c r rs).Inv :=
  have hnot : c ∉ s.inflight.map Rmw.caller := fun hc =>
    have ⟨x, hx, hxc⟩ := List.mem_map.mp hc
    hw x hx hxc
  { h with holder := fun _ => hnot }

/-! ### The requests -/

theorem FaultCode.code_le (f : FaultCode) : f.code.toNat ≤ 4 := by cases f <;> decide

/-- The first fault is recorded with a named code (R605, R606). -/
theorem State.Inv.raise {s t : State} (h : s.Inv) (f : FaultCode) (hr : raise f s = .next t) : t.Inv := by
  obtain ⟨ht, hf | hf⟩ := raise_next f s t hr
  · rw [ht]
    exact h.setFault t.fault (hf ▸ h.faults)
  · rw [ht]
    exact h.setFault t.fault (hf ▸ f.code_le)

/-- CONFIGURE_MODE makes a read-modify-write of a register that exists, at a pin's field, with the code of Input or Output (R451). -/
theorem Rmw.made_of_modeCode (pin : Nat) (mode : Int) (c : BitVec 3) (w : Word) (d : Nat) (hi : fselIndex pin < 6)
    (hm : modeCode mode = some c) : (Rmw.mk (fselIndex pin) (fselOffset pin) c w d).Made :=
  ⟨hi, ⟨pin % 10, Nat.mod_lt _ (by decide), fselOffset_eq pin⟩, (modeCode_eq_some mode c hm).imp And.right And.right⟩

/-- A read of FSEL[i], as one of R203's transactions while the mapping exists. -/
theorem State.Inv.legal_read_fsel {s : State} (h : s.Inv) (hl : s.life = .mapped) (i : Nat) (hi : i < 6) (v : Word) :
    (Txn.read (s.base + (0x00 + 4 * i)) v).Legal s.cfg.gpioBase :=
  (h.handle hl).1 ▸ .inl ⟨i, hi, rfl⟩

/-- A read of LEV[i]. -/
theorem State.Inv.legal_read_lev {s : State} (h : s.Inv) (hl : s.life = .mapped) (i : Nat) (hi : i < 2) (v : Word) :
    (Txn.read (s.base + (0x34 + 4 * i)) v).Legal s.cfg.gpioBase :=
  (h.handle hl).1 ▸ .inr ⟨i, hi, rfl⟩

/-- A write of FSEL[i]. -/
theorem State.Inv.legal_write_fsel {s : State} (h : s.Inv) (hl : s.life = .mapped) (i : Nat) (hi : i < 6) (v : Word) :
    (Txn.write (s.base + (0x00 + 4 * i)) v).Legal s.cfg.gpioBase :=
  (h.handle hl).1 ▸ .inl ⟨i, hi, rfl⟩

/-- A one-hot write of SET[i] or of CLR[i]. -/
theorem State.Inv.legal_write_strobe {s : State} (h : s.Inv) (hl : s.life = .mapped) (b : Bool) (p : Nat) (hi : bitReg p < 2) :
    (Txn.write (s.base + ((if b then 0x1C else 0x28) + 4 * bitReg p)) (onehot p)).Legal s.cfg.gpioBase := by
  rw [(h.handle hl).1]
  refine .inr ⟨⟨bitReg p, hi, ?_⟩, bitPos p, bitPos_lt p, rfl⟩
  cases b
  · exact .inr rfl
  · exact .inl rfl

/-- A request performed keeps the invariant. -/
theorem exec_inv {s t : State} (i : Instr) (h : s.Inv) (hq : s.req ≠ none) (he : exec i s = .next t) : t.Inv := by
  rcases exec_cases i s t he with ⟨d0, d1, -, rfl⟩ | ⟨-, rfl⟩ | ⟨-, -, rfl⟩ | ⟨-, -, rfl⟩ | ⟨f, -, hf⟩
    | ⟨p, m, c, hi, -, hm, hl, hs, rfl⟩ | ⟨p, m, c, hi, -, hm, hl, hs, rfl⟩ | ⟨p, v, b, -, -, hi, hl, rfl⟩
    | ⟨p, w, e, -, hi, hl, rfl⟩ | ⟨b, z, e, -, hl, hb, hz, rfl⟩ | ⟨b, z, e, -, hl, rfl⟩ | ⟨-, hl, rfl⟩
  · exact h.answer _ (Nat.zero_le 4)
  · exact h.answer _ (by decide : (1 : Word).toNat ≤ 4)
  · exact h.answer _ (by decide : (2 : Word).toNat ≤ 4)
  · exact h.answer _ (by decide : (3 : Word).toNat ≤ 4)
  · exact h.raise f hf
  · -- CONFIGURE_MODE, both transactions
    have hread := h.logTxn _ (h.legal_read_fsel hl (fselIndex p) hi s.fsel[fselIndex p])
    exact ((hread.setFsel ⟨_, hi⟩ _).logTxn _ (h.legal_write_fsel hl _ hi _)).answer _ (Nat.zero_le 4)
  · -- CONFIGURE_MODE, its read alone
    have hread := h.logTxn _ (h.legal_read_fsel hl (fselIndex p) hi s.fsel[fselIndex p])
    exact hread.defer _ (Rmw.made_of_modeCode p m c _ _ hi hm) rfl hq hs hl
  · -- WRITE_PIN
    refine ((h.setLatch _).logTxn _ ?_).answer _ (Nat.zero_le 4)
    exact h.legal_write_strobe hl b p hi
  · -- READ_PIN
    exact ((h.setEnv e).logTxn _ (h.legal_read_lev hl _ hi w)).answer _ (Nat.zero_le 4)
  · -- BIND, granted
    have hmap := (h.setEnv e).setMapping (by simp [hl]) (zextPaddr s.cfg b) (wordOf z)
    have hsize : wordOf z = s.cfg.blockSize := by simp [wordOf, hz]
    exact (hmap.setLife .mapped (fun _ => ⟨hb, hsize⟩) (by simp)).answer _ (Nat.zero_le 4)
  · -- BIND, refused
    exact ((h.setEnv e).setLife .dead (by simp) fun _ => h.before (.inl hl)).answer _ (by decide : (4 : Word).toNat ≤ 4)
  · -- UNBIND
    exact (h.setLife .released (by simp) (by simp)).answer _ (Nat.zero_le 4)

/-- A move of the port keeps the invariant; the register index of a request in flight is that of a register. -/
theorem portMove_inv {s t : State} (h : s.Inv) (hp : portMove s = .next t) : t.Inv := by
  rcases portMove_next_cases s t hp with rfl | ⟨e, -, -, hf⟩ | ⟨k, e, r, hl, hk, hw⟩ | ⟨c, e, r, rs, hc, -, rfl⟩
  · exact h
  · exact (h.setEnv e).raise _ hf
  · obtain ⟨hr, -, -⟩ := h.flight r (List.mem_of_getElem? hk)
    obtain ⟨u, hu, rfl⟩ | ⟨hr', -⟩ := hw
    · rw [busWrite_fsel r.reg hr] at hu
      obtain rfl := Option.some.inj hu
      refine ((((h.setEnv e).setFsel _ _).logTxn _ ?_).retire k).answer _ (Nat.zero_le 4)
      exact h.legal_write_fsel hl r.reg hr _
    · exact absurd hr (not_lt.mpr hr')
  · obtain ⟨-, -, -, hwait⟩ := (mem_ready_iff s c).mp hc
    exact (h.setEnv e).issueNext c r rs hwait

/-- Settles O41: a step is a request, a refusal or a move of the port, and each keeps the invariant. -/
theorem everyStepKeepsTheBlockInvariant : Obligations.EveryStepKeepsTheBlockInvariant := by
  unfold Obligations.EveryStepKeepsTheBlockInvariant
  intro s t h hst
  obtain ⟨-, -, ⟨r, i, hq, -, he⟩ | ⟨r, e, -, -, rfl⟩ | ⟨-, hp⟩⟩ := step_cases s t hst
  · exact exec_inv i h (by simp [hq]) he
  · exact h.setRefused
  · exact portMove_inv h hp

/-! ### Reset -/

/-- In `loopback`, parameters that meet R9 have no latch set at reset. -/
theorem latchInit_of_loopback (c : Config) (hwf : c.wf = true) (hl : c.levelMode = .loopback) : c.latchInit = 0 := by
  simp only [Config.wf, hl, bne_self_eq_false, Bool.false_or, Bool.and_eq_true, beq_iff_eq] at hwf
  exact hwf.2

/-- Settles O39: the reset state holds these values as written; LATCH in `loopback` is R9's. -/
theorem resetValuesAreTheSpecs : Obligations.ResetValuesAreTheSpecs := by
  unfold Obligations.ResetValuesAreTheSpecs
  exact ⟨fun c => ⟨rfl, rfl, rfl, rfl, rfl, rfl, rfl, rfl, latchInit_of_loopback c⟩, by decide, rfl⟩

/-- Settles O40: nothing is mapped, issued or in flight at reset, so each clause is R9's or empty. -/
theorem blockInvariantAtReset : Obligations.BlockInvariantAtReset := by
  unfold Obligations.BlockInvariantAtReset
  intro c hc
  exact {
    params := hc
    handle := nofun
    bus := fun x hx => absurd hx List.not_mem_nil
    serial := fun _ => rfl
    flight := fun r hr => absurd hr List.not_mem_nil
    before := fun _ => rfl
    callers := List.nodup_nil
    holder := fun hq => absurd rfl hq
    faults := Nat.zero_le 4
    status := Nat.zero_le 4
    evtSpan := List.length_replicate }

end Sys2Proof.Machine

/-! ## Function select: what a rewritten field leaves of the other pins -/

namespace Sys2Proof.Machine

theorem fselOffset_le (p : Nat) : fselOffset p ≤ 27 := by rw [fselOffset_eq]; omega

/-- The fields of two pins of one register do not overlap (R106). -/
theorem fselOffset_disjoint (p q : Nat) (hi : fselIndex p = fselIndex q) (hpq : p ≠ q) :
    fselOffset p + 3 ≤ fselOffset q ∨ fselOffset q + 3 ≤ fselOffset p := by
  rw [fselOffset_eq, fselOffset_eq]
  unfold fselIndex at hi
  omega

/-- The decoder reads back the code written (R405, R406). -/
theorem decodeFsel_encodeFsel (w : Word) (off : Nat) (c : BitVec 3) (h : off + 3 ≤ 32) :
    decodeFsel (encodeFsel w off c) off = c := by
  refine BitVec.eq_of_getLsbD_eq fun k hk => ?_
  rw [getLsbD_decodeFsel _ _ _ hk, getLsbD_encodeFsel _ _ _ _ (by omega), if_pos (by omega), Nat.add_sub_cancel_left]

/-- The decoder reads a field apart from the one written as before (R405, R406). -/
theorem decodeFsel_encodeFsel_disjoint (w : Word) (off off' : Nat) (c : BitVec 3) (h : off' + 3 ≤ 32)
    (hd : off + 3 ≤ off' ∨ off' + 3 ≤ off) : decodeFsel (encodeFsel w off c) off' = decodeFsel w off' := by
  refine BitVec.eq_of_getLsbD_eq fun k hk => ?_
  rw [getLsbD_decodeFsel _ _ _ hk, getLsbD_decodeFsel _ _ _ hk, getLsbD_encodeFsel _ _ _ _ (by omega), if_neg (by omega)]

theorem fselWord_eq_getElem (s : State) (i : Nat) (hi : i < 6) : s.fselWord i = s.fsel[i] := dif_pos hi

/-- A pin's mode is read off FSEL alone. -/
theorem modeOf_congr (s t : State) (h : t.fsel = s.fsel) (p : Nat) : t.modeOf p = s.modeOf p := by
  simp only [State.modeOf, State.fselWord, h]

/-- The FSEL of `t` is that of `s` with the field of pin `p` at the code `c`. -/
def State.FieldRewritten (s t : State) (p : Nat) (c : BitVec 3) : Prop :=
  ∀ j < 6, t.fselWord j = if j = fselIndex p then encodeFsel (s.fselWord j) (fselOffset p) c else s.fselWord j

theorem fieldRewritten_of_fsel (s t : State) (p : Nat) (c : BitVec 3) (hi : fselIndex p < 6)
    (h : t.fsel = s.fsel.set (fselIndex p) (encodeFsel s.fsel[fselIndex p] (fselOffset p) c)) : s.FieldRewritten t p c := by
  intro j hj
  rw [fselWord_eq_getElem t j hj, fselWord_eq_getElem s j hj]
  simp only [h, Vector.getElem_set]
  by_cases hji : fselIndex p = j
  · subst hji
    rw [if_pos rfl]
  · rw [if_neg hji, if_neg (Ne.symm hji)]

section
variable {s t : State} {p : Nat} {c : BitVec 3}

/-- The pin has the code written. -/
theorem State.FieldRewritten.modeOf_same (h : s.FieldRewritten t p c) (hp : p < 60) : t.modeOf p = c := by
  have := fselOffset_le p
  rw [State.modeOf, h _ ((fselIndex_lt_iff p).mpr hp), if_pos rfl]
  exact decodeFsel_encodeFsel _ _ _ (by omega)

/-- Every other pin has the code it had. -/
theorem State.FieldRewritten.modeOf_other (h : s.FieldRewritten t p c) (q : Nat) (hq : q < 60) (hqp : q ≠ p) :
    t.modeOf q = s.modeOf q := by
  have := fselOffset_le q
  rw [State.modeOf, State.modeOf, h _ ((fselIndex_lt_iff q).mpr hq)]
  split
  next hi => exact decodeFsel_encodeFsel_disjoint _ _ _ _ (by omega) (fselOffset_disjoint p q hi.symm hqp.symm)
  next => rfl

/-- Bits 31:30, in no pin's field, are kept (R106). -/
theorem State.FieldRewritten.getLsbD_spare (h : s.FieldRewritten t p c) (j b : Nat) (hj : j < 6) (hb : 30 ≤ b) (hb' : b < 32) :
    (t.fselWord j).getLsbD b = (s.fselWord j).getLsbD b := by
  have := fselOffset_le p
  rw [h j hj]
  split
  next => rw [getLsbD_encodeFsel _ _ _ _ hb', if_neg (by omega)]
  next => rfl

end

/-- What CONFIGURE_MODE with SERIALIZED true leaves of FSEL and LATCH (R451). -/
theorem configureMode_rewrites_field (s : State) (pin : Nat) (mode : Int) (hl : s.life = .mapped) (hs : s.cfg.serialized = true)
    (hp : pin < 60) (hm : mode = 0 ∨ mode = 1) :
    ∃ t, exec (.configureMode pin mode) s = .next t ∧ s.FieldRewritten t pin (if mode = 0 then 0b000 else 0b001)
      ∧ t.latch = s.latch := by
  have hi := (fselIndex_lt_iff pin).mpr hp
  have hc : modeCode mode = some (if mode = 0 then 0b000 else 0b001) := by rcases hm with rfl | rfl <;> rfl
  exact ⟨_, execConfigureMode_serialized s pin mode _ hl hc hi hs, fieldRewritten_of_fsel _ _ _ _ hi rfl, rfl⟩

/-- Settles O18, by what the one rewritten field leaves of FSEL. -/
theorem configureModeSetsOnlyThePinsMode : Obligations.ConfigureModeSetsOnlyThePinsMode := by
  unfold Obligations.ConfigureModeSetsOnlyThePinsMode
  intro s pin mode hl hs hp hm
  obtain ⟨t, ht, hf, -⟩ := configureMode_rewrites_field s pin mode hl hs hp hm
  exact ⟨t, ht, hf.modeOf_same hp, hf.modeOf_other,
    fun j hj => ⟨hf.getLsbD_spare j 30 hj (by decide) (by decide), hf.getLsbD_spare j 31 hj (by decide) (by decide)⟩⟩

/-- What drives a pin depends on its mode, where it has one, and on LATCH (R114). -/
theorem pinDrive_congr (s t : State) (q : Nat) (hm : q < 60 → t.modeOf q = s.modeOf q) (hl : t.latch = s.latch) :
    t.pinDrive q = s.pinDrive q := by
  unfold State.pinDrive
  by_cases hq : q < 60
  · rw [hm hq, hl]
  · simp [hq]

/-- Settles O19: the drive follows the mode at once, and LATCH is as before. -/
theorem configuredPinIsDrivenAtOnce : Obligations.ConfiguredPinIsDrivenAtOnce := by
  unfold Obligations.ConfiguredPinIsDrivenAtOnce
  intro s pin mode hl hs hp hm
  obtain ⟨t, ht, hf, hlatch⟩ := configureMode_rewrites_field s pin mode hl hs hp hm
  refine ⟨t, ht, ?_, fun q _ hqp => pinDrive_congr s t q (fun hq => hf.modeOf_other q hq hqp) hlatch⟩
  rcases hm with rfl | rfl
  · simp [State.pinDrive, hp, hf.modeOf_same hp]
  · simp [State.pinDrive, hp, hf.modeOf_same hp, hlatch]

/-- A request leaves FSEL as it was, or gives one pin the code of Input or Output (R107). With SERIALIZED false it is the write of a
request in flight, no request, that changes FSEL. -/
theorem exec_fsel_cases (i : Instr) (s t : State) (h : exec i s = .next t) :
    t.fsel = s.fsel ∨ ∃ p c, p < 60 ∧ (c = 0b000 ∨ c = 0b001) ∧ s.FieldRewritten t p c := by
  rcases exec_cases i s t h with ⟨_, _, -, rfl⟩ | ⟨-, rfl⟩ | ⟨-, -, rfl⟩ | ⟨-, -, rfl⟩ | ⟨f, -, hf⟩
    | ⟨p, m, c, hi, -, hm, -, -, rfl⟩ | ⟨_, _, _, _, -, -, -, -, rfl⟩ | ⟨_, _, _, -, -, -, -, rfl⟩ | ⟨_, _, _, -, -, -, rfl⟩
    | ⟨_, _, _, -, -, -, -, rfl⟩ | ⟨_, _, _, -, -, rfl⟩ | ⟨-, -, rfl⟩
  case inr.inr.inr.inr.inl => exact .inl (congrArg State.fsel (raise_next f s t hf).1 :)
  case inr.inr.inr.inr.inr.inl =>
    exact .inr ⟨p, c, (fselIndex_lt_iff p).mp hi, (modeCode_eq_some m c hm).imp And.right And.right,
      fieldRewritten_of_fsel s _ p c hi rfl⟩
  all_goals exact .inl rfl

/-- Settles O30: the one field a request rewrites takes the code of Input or Output. -/
theorem onlyInputAndOutputCodesAreWritten : Obligations.OnlyInputAndOutputCodesAreWritten := by
  unfold Obligations.OnlyInputAndOutputCodesAreWritten
  intro i s t _ h p hp
  obtain hf | ⟨q, c, hq, hc, hf⟩ := exec_fsel_cases i s t h
  · exact .inl (modeOf_congr s t hf p)
  · by_cases hpq : p = q
    · subst hpq
      rw [hf.modeOf_same hp]
      exact .inr hc
    · exact .inl (hf.modeOf_other p hp hpq)

end Sys2Proof.Machine

/-! ## Levels in `external` mode: READ_PIN and the outputs -/

namespace Sys2Proof.Machine

/-- The state with other latches and function-select registers. -/
def State.withOutputs (s : State) (l : BitVec 64) (f : Vector Word 6) : State := { s with latch := l, fsel := f }

/-- READ_PIN with no mapping (R450). -/
theorem execReadPin_unmapped (s : State) (pin : Nat) (hl : s.life ≠ .mapped) : execReadPin pin s = respond .unmapped 0 0 s :=
  if_pos hl

/-- READ_PIN of a pin without a level register (R450). -/
theorem execReadPin_range (s : State) (pin : Nat) (hl : s.life = .mapped) (hi : ¬ bitReg pin < 2) :
    execReadPin pin s = raise .pinRange s := by
  rw [execReadPin, if_neg (not_not.mpr hl), if_neg (by simpa [bitInRange] using hi)]

theorem raise_withOutputs (c : FaultCode) (s t : State) (l : BitVec 64) (f : Vector Word 6) (h : raise c s = .next t) :
    raise c (s.withOutputs l f) = .next (t.withOutputs l f) := by
  by_cases hf : s.fault = 0
  · rw [raise_first c s hf] at h
    obtain rfl := Host.Outcome.next.inj h
    exact raise_first c (s.withOutputs l f) hf
  · rw [raise_later c s hf] at h
    obtain rfl := Host.Outcome.next.inj h
    exact raise_later c (s.withOutputs l f) hf

/-- In `external` the word a level read returns, and the draw it makes, do not see the outputs (R115). -/
theorem levelWord_withOutputs (i : Nat) (s : State) (l : BitVec 64) (f : Vector Word 6) (h : s.cfg.levelMode = .external) :
    levelWord i (s.withOutputs l f) = ((levelWord i s).1, (levelWord i s).2.withOutputs l f) := by
  have hw : (s.withOutputs l f).cfg.levelMode = .external := h
  have he : (s.withOutputs l f).env = s.env := rfl
  cases hlev : s.env.levels <;> simp only [levelWord, h, hw, drawLevel, he, hlev] <;> rfl

/-- Settles O27, by the checks of READ_PIN: past them its answer is the level word's. -/
theorem externalReadLearnsNothingOfLatch : Obligations.ExternalReadLearnsNothingOfLatch := by
  unfold Obligations.ExternalReadLearnsNothingOfLatch
  intro s t pin l f hext h
  change execReadPin pin s = .next t at h
  change execReadPin pin (s.withOutputs l f) = .next (t.withOutputs l f)
  by_cases hl : s.life = .mapped
  · by_cases hi : bitReg pin < 2
    · rw [execReadPin_mapped s pin hl hi] at h
      obtain rfl := Host.Outcome.next.inj h
      rw [execReadPin_mapped (s.withOutputs l f) pin hl hi, levelWord_withOutputs _ s l f hext]
      rfl
    · rw [execReadPin_range s pin hl hi] at h
      rw [execReadPin_range (s.withOutputs l f) pin hl hi]
      exact raise_withOutputs _ s t l f h
  · rw [execReadPin_unmapped s pin hl] at h
    obtain rfl := Host.Outcome.next.inj h
    exact execReadPin_unmapped (s.withOutputs l f) pin hl

end Sys2Proof.Machine

/-! # The register window: accesses refused, transactions issued -/

/-! ## Raw access: which accesses have a form of R203 -/

namespace Sys2Proof.Machine

/-- Only a register's own offset names it (R105). -/
theorem Reg.offset_of_ofOffset (off : Nat) (r : Reg) (h : Reg.ofOffset off = some r) : off = r.offset :=
  (beq_iff_eq.mp (List.find?_some (p := fun r : Reg => r.offset == off) h)).symm

/-- The reads R203 lists are of FSEL and of LEV. -/
theorem offset_of_busRead (off : Nat) (s : State) (x : Word × State) (h : busRead off s = some x) :
    (∃ i < 6, off = 4 * i) ∨ (∃ i < 2, off = 0x34 + 4 * i) := by
  unfold busRead at h
  split at h
  next i hr => exact .inl ⟨i, i.isLt, by simpa [Reg.offset] using Reg.offset_of_ofOffset off _ hr⟩
  next i hr => exact .inr ⟨i, i.isLt, Reg.offset_of_ofOffset off _ hr⟩
  all_goals cases h

theorem isOneHot_iff (v : Word) : isOneHot v = true ↔ ∃ b < 32, v = 1#32 <<< b := by
  simp only [isOneHot, List.any_eq_true, List.mem_range, beq_iff_eq]

/-- The writes R203 lists, with the words R408 allows, are of FSEL, or one-hot of SET or CLR. -/
theorem form_of_busWrite (off : Nat) (v : Word) (s t : State) (hw : strobeWordOk off v = true) (h : busWrite off v s = some t) :
    (∃ i < 6, off = 4 * i) ∨ ((∃ i < 2, off = 0x1C + 4 * i ∨ off = 0x28 + 4 * i) ∧ ∃ b < 32, v = 1#32 <<< b) := by
  unfold busWrite at h
  split at h
  next i hr => exact .inl ⟨i, i.isLt, by simpa [Reg.offset] using Reg.offset_of_ofOffset off _ hr⟩
  next i hr =>
    rw [strobeWordOk, hr] at hw
    exact .inr ⟨⟨i, i.isLt, .inl (Reg.offset_of_ofOffset off _ hr)⟩, (isOneHot_iff v).mp hw⟩
  next i hr =>
    rw [strobeWordOk, hr] at hw
    exact .inr ⟨⟨i, i.isLt, .inr (Reg.offset_of_ofOffset off _ hr)⟩, (isOneHot_iff v).mp hw⟩
  all_goals cases h

/-- A raw read is refused, or it has a form of R203. -/
theorem rawAccess_read_cases (off width : Nat) (s : State) :
    rawAccess (.read off width) s = .next s.setRefused
    ∨ s.life = .mapped ∧ width = 4 ∧ ((∃ i < 6, off = 4 * i) ∨ (∃ i < 2, off = 0x34 + 4 * i)) := by
  unfold rawAccess
  dsimp only
  split
  next hc =>
    cases hb : busRead off s with
    | none   => exact .inl rfl
    | some x => exact .inr ⟨hc.1, hc.2, offset_of_busRead off s x hb⟩
  next => exact .inl rfl

/-- A raw write is refused, or it has a form of R203. -/
theorem rawAccess_write_cases (off width : Nat) (v : Word) (s : State) :
    rawAccess (.write off width v) s = .next s.setRefused
    ∨ s.life = .mapped ∧ width = 4
      ∧ ((∃ i < 6, off = 4 * i) ∨ ((∃ i < 2, off = 0x1C + 4 * i ∨ off = 0x28 + 4 * i) ∧ ∃ b < 32, v = 1#32 <<< b)) := by
  unfold rawAccess
  dsimp only
  split
  next hc =>
    obtain ⟨hl, hwidth, hw⟩ := hc
    cases hb : busWrite off v s with
    | none   => exact .inl rfl
    | some t => exact .inr ⟨hl, hwidth, form_of_busWrite off v s t hw hb⟩
  next => exact .inl rfl

/-- Settles O46: an access that is not refused has each part of R203's form. -/
theorem otherRawAccessesAreRefused : Obligations.OtherRawAccessesAreRefused := by
  unfold Obligations.OtherRawAccessesAreRefused
  refine fun s off width v => ⟨fun h => ?_, fun h => ?_⟩
  · refine (rawAccess_read_cases off width s).resolve_right fun ⟨hl, hwidth, hform⟩ => ?_
    exact h.elim (· hl) (·.elim (· hwidth) (· hform))
  · refine (rawAccess_write_cases off width v s).resolve_right fun ⟨hl, hwidth, hform⟩ => ?_
    exact h.elim (· hl) (·.elim (· hwidth) (· hform))

end Sys2Proof.Machine

/-! ## The transactions a step issues -/

namespace Sys2Proof.Machine

/-- `t` has the transactions of `s` and at most two more, none of them without a mapping. -/
def State.Transacts (s t : State) : Prop :=
  ∃ xs, t.bus = s.bus ++ xs ∧ xs.length ≤ 2 ∧ (xs ≠ [] → s.life = .mapped)

/-- A step that issues nothing. -/
theorem State.Transacts.of_bus_eq {s t : State} (h : t.bus = s.bus) : s.Transacts t :=
  ⟨[], by rw [h, List.append_nil], by simp, fun hn => absurd rfl hn⟩

/-- One transaction, while the mapping exists. -/
theorem State.Transacts.one {s t : State} (x : Txn) (hl : s.life = .mapped) (h : t.bus = s.bus ++ [x]) : s.Transacts t :=
  ⟨[x], h, by simp, fun _ => hl⟩

/-- A request issues at most two transactions (R720). -/
theorem exec_transacts (i : Instr) (s t : State) (h : exec i s = .next t) : s.Transacts t := by
  rcases exec_cases i s t h with ⟨_, _, -, rfl⟩ | ⟨-, rfl⟩ | ⟨-, -, rfl⟩ | ⟨-, -, rfl⟩ | ⟨f, -, hf⟩
    | ⟨_, _, _, _, -, -, hl, -, rfl⟩ | ⟨_, _, _, _, -, -, hl, -, rfl⟩ | ⟨_, _, _, -, -, -, hl, rfl⟩ | ⟨_, _, _, -, -, hl, rfl⟩
    | ⟨_, _, _, -, -, -, -, rfl⟩ | ⟨_, _, _, -, -, rfl⟩ | ⟨-, -, rfl⟩
  case inr.inr.inr.inr.inl => exact .of_bus_eq (congrArg State.bus (raise_next f s t hf).1 :)
  case inr.inr.inr.inr.inr.inl =>
    -- CONFIGURE_MODE with SERIALIZED true: its read and its write
    exact ⟨[_, _], List.append_assoc _ [_] [_], le_rfl, fun _ => hl⟩
  case inr.inr.inr.inr.inr.inr.inl => exact .one _ hl rfl
  case inr.inr.inr.inr.inr.inr.inr.inl => exact .one _ hl rfl
  case inr.inr.inr.inr.inr.inr.inr.inr.inl => exact .one _ hl rfl
  all_goals exact .of_bus_eq rfl

/-- A move of the port issues at most the write of a request in flight. -/
theorem portMove_transacts (s t : State) (h : portMove s = .next t) : s.Transacts t := by
  rcases portMove_next_cases s t h with rfl | ⟨e, -, -, hf⟩ | ⟨k, e, r, hl, -, ⟨u, hu, rfl⟩ | ⟨-, rfl⟩⟩ | ⟨c, e, r, rs, -, -, rfl⟩
  · exact .of_bus_eq rfl
  · exact .of_bus_eq (congrArg State.bus (raise_next _ _ t hf).1 :)
  · exact .one _ hl (congrArg State.bus (busWrite_state _ _ _ u hu) :)
  · exact .of_bus_eq rfl
  · exact .of_bus_eq rfl

theorem step_transacts (s t : State) (h : step s = .next t) : s.Transacts t := by
  obtain ⟨-, -, ⟨r, i, -, -, he⟩ | ⟨r, e, -, -, rfl⟩ | ⟨-, hp⟩⟩ := step_cases s t h
  · exact exec_transacts i s t he
  · exact .of_bus_eq rfl
  · exact portMove_transacts s t hp

/-- A transaction of R203 is to an aligned word of the registers' part of the block (R201, R202). -/
theorem Txn.Legal.in_block {x : Txn} {base : Nat} (h : x.Legal base) (hb : base % 4 = 0) :
    x.addr % 4 = 0 ∧ base ≤ x.addr ∧ x.addr + 4 ≤ base + 0x3C := by
  cases x with
  | read a v =>
    obtain ⟨i, hi, ha⟩ | ⟨i, hi, ha⟩ := h
    all_goals rw [Txn.addr]; omega
  | write a v =>
    obtain ⟨i, hi, ha⟩ | ⟨⟨i, hi, ha | ha⟩, -⟩ := h
    all_goals rw [Txn.addr]; omega

/-- R9's constraints on the place and the size of the register block. -/
theorem block_of_wf (c : Config) (h : c.wf = true) : c.gpioBase % 4 = 0 ∧ 0x3C ≤ c.blockSize.toNat := by
  simp only [Config.wf, Bool.and_eq_true, beq_iff_eq, decide_eq_true_eq] at h
  obtain ⟨⟨⟨⟨⟨⟨hbase, -⟩, -⟩, -⟩, hsize⟩, -⟩, -⟩ := h
  exact ⟨hbase, hsize⟩

/-- Settles O42: the invariant after the step says that each transaction is one of R203's; what it says of BASE and SIZE before
the step puts those in the window. -/
theorem transactionsStayInTheMappedWindow : Obligations.TransactionsStayInTheMappedWindow := by
  unfold Obligations.TransactionsStayInTheMappedWindow
  intro s t h hst
  obtain ⟨xs, hbus, -, hmapped⟩ := step_transacts s t hst
  obtain ⟨-, -, hcfg⟩ := reservedRegistersAreNeverTouched s t hst
  refine ⟨xs, hbus, fun x hx => ?_⟩
  have hl := hmapped (List.ne_nil_of_mem hx)
  obtain ⟨hbase, hsize⟩ := h.handle hl
  obtain ⟨haligned, hspan⟩ := block_of_wf s.cfg h.params
  have hlegal : x.Legal s.cfg.gpioBase := hcfg ▸
    (everyStepKeepsTheBlockInvariant s t h hst).bus x (hbus ▸ List.mem_append_right _ hx)
  obtain ⟨ha, hlo, hhi⟩ := hlegal.in_block haligned
  rw [hbase, hsize]
  exact ⟨hl, ha, hlo, by omega⟩

end Sys2Proof.Machine

/-! ## SERIALIZED false: the moves of the port, and the two halves of CONFIGURE_MODE -/

namespace Sys2Proof.Machine

/-- Of the moves the port has, `k` is taken and leaves `e` of the environment's side: it is the one move there is, or, of several, the
one the environment has ready (R211). -/
def State.Takes (s : State) (k : Nat) (e : Env) : Prop :=
  (s.moves = 1 ∧ e = s.env)
    ∨ (1 < s.moves ∧ ∃ ts, s.env.turns = k :: ts ∧ e = { s.env with turns := ts, drawn := s.env.drawn + 1 })

/-- The first moves are the writes of the requests in flight. -/
theorem step_finishes (s : State) (k : Nat) (e : Env) (hr : s.Running) (hq : s.req = none) (hk : k < s.inflight.length)
    (h : s.Takes k e) : step s = finishRmw k (s.setEnv e) := by
  rw [step_of_no_req s hr hq, portMove_chosen s k e (Nat.lt_add_right _ hk) h, if_pos hk]

/-- The moves after those are the issues by the callers that may. -/
theorem step_issues (s : State) (j c : Nat) (e : Env) (r : Request) (rest : List Request) (hr : s.Running) (hq : s.req = none)
    (hj : s.ready[j]? = some c) (hc : s.queueOf c = r :: rest) (h : s.Takes (s.inflight.length + j) e) :
    step s = .next ((s.setEnv e).issueNext c r rest) := by
  obtain ⟨hlt, -⟩ := List.getElem?_eq_some_iff.mp hj
  rw [step_of_no_req s hr hq, portMove_chosen s _ e (Nat.add_lt_add_left hlt _) h, if_neg (by omega), Nat.add_sub_cancel_left,
    List.getD_eq_getElem?_getD, hj, Option.getD_some, issueRequest, State.setEnv_queueOf, hc]

/-- Settles O10: a request in flight is a move by its place there, a caller by its place among those that may issue. -/
theorem everyAdmittedMoveIsTaken : Obligations.EveryAdmittedMoveIsTaken := by
  unfold Obligations.EveryAdmittedMoveIsTaken
  refine ⟨fun s k ts hr hq hm hk ht => step_finishes s k _ hr hq hk (.inr ⟨hm, ts, ht, rfl⟩),
    fun s c r rest hr hq hl hs hw hc => ?_⟩
  have hqc : s.queueOf c = r :: rest := by rw [State.queueOf, hc]; rfl
  have hready : c ∈ s.ready := (mem_ready_iff s c).mpr ⟨hl, hs, by simp [hqc], hw⟩
  obtain ⟨j, hj⟩ := List.mem_iff_getElem?.mp hready
  refine ⟨fun h1 => ?_, fun hm => ⟨s.inflight.length + j, fun ts => ?_⟩⟩
  · exact step_issues s j c s.env r rest hr hq hj hqc (.inl ⟨h1, rfl⟩)
  · exact step_issues { s with env := { s.env with turns := (s.inflight.length + j) :: ts } } j c _ r rest hr hq hj hqc
      (.inr ⟨hm, ts, rfl, rfl⟩)

/-- FSEL after a write of one register, by number. -/
theorem fselWord_of_set (s t : State) (i : Nat) (hi : i < 6) (v : Word) (h : t.fsel = s.fsel.set i v) (j : Nat) (hj : j < 6) :
    t.fselWord j = if j = i then v else s.fselWord j := by
  rw [fselWord_eq_getElem t j hj, fselWord_eq_getElem s j hj]
  simp only [h, Vector.getElem_set, eq_comm]

/-- Settles O21: the move taken is the write of the k-th request in flight. -/
theorem inFlightConfigureWritesLater : Obligations.InFlightConfigureWritesLater := by
  unfold Obligations.InFlightConfigureWritesLater
  intro s k r e hr hq hk hreg hl he
  obtain ⟨hlt, -⟩ := List.getElem?_eq_some_iff.mp hk
  rw [step_finishes s k e hr hq hlt he, finishRmw_mapped (s.setEnv e) k r hk hl hreg, Nat.zero_add]
  exact ⟨_, rfl, rfl, fun j hj => fselWord_of_set s _ r.reg hreg _ rfl j hj⟩

/-- The code of a valid mode (R407). -/
theorem modeCode_of_valid (m : Int) (h : m = 0 ∨ m = 1) : modeCode m = some (if m = 0 then 0b000 else 0b001) := by
  rcases h with rfl | rfl <;> rfl

/-- Settles O20: past its checks, the request is left in flight with the value read. -/
theorem unserializedConfigureReadsFirst : Obligations.UnserializedConfigureReadsFirst := by
  unfold Obligations.UnserializedConfigureReadsFirst
  intro s pin mode hl hs hp hm
  have hi := (fselIndex_lt_iff pin).mpr hp
  rw [exec, execConfigureMode_unserialized s pin mode _ hl (modeCode_of_valid mode hm) hi hs, fselOffset_eq, Nat.zero_add,
    ← fselWord_eq_getElem s _ hi]
  rfl

/-- What the read half of CONFIGURE_MODE leaves for the requests after it. -/
theorem configureMode_defers (s : State) (p : Nat) (m : Int) (hl : s.life = .mapped) (hs : s.cfg.serialized = false) (hp : p < 60)
    (hm : m = 0 ∨ m = 1) : ∃ t, exec (.configureMode p m) s = .next t ∧ t.life = .mapped ∧ t.cfg = s.cfg ∧ t.fsel = s.fsel
      ∧ t.inflight = s.inflight
          ++ [⟨fselIndex p, fselOffset p, if m = 0 then 0b000 else 0b001, s.fselWord (fselIndex p), s.caller⟩] :=
  ⟨_, unserializedConfigureReadsFirst s p m hl hs hp hm, hl, rfl, rfl, by rw [fselOffset_eq]; rfl⟩

/-- What the write half leaves for the requests after it. -/
theorem finishRmw_writes (s : State) (k : Nat) (r : Rmw) (hk : s.inflight[k]? = some r) (hl : s.life = .mapped) (hr : r.reg < 6) :
    ∃ t, finishRmw k s = .next t ∧ t.life = .mapped ∧ t.inflight = s.inflight.eraseIdx k
      ∧ t.fsel = s.fsel.set r.reg (encodeFsel r.tmp r.off r.code) :=
  ⟨_, finishRmw_mapped s k r hk hl hr, hl, rfl, rfl⟩

/-- Settles O23: both writes are made from the word both requests read, so together they rewrite the second pin's field alone. -/
theorem interleavedConfiguresLoseAnUpdate : Obligations.InterleavedConfiguresLoseAnUpdate := by
  unfold Obligations.InterleavedConfiguresLoseAnUpdate
  intro s p q m n hl hs hin hp hpq hne hm hn
  have hq : q < 60 := by omega
  have hi : fselIndex q < 6 := (fselIndex_lt_iff q).mpr hq
  have hidx : fselIndex p = fselIndex q := hpq
  obtain ⟨s1, h1, hl1, hcfg1, hf1, hin1⟩ := configureMode_defers s p m hl hs hp hm
  obtain ⟨s2, h2, hl2, -, hf2, hin2⟩ := configureMode_defers s1 q n hl1 (by rw [hcfg1, hs]) hq hn
  rw [hin1, hin] at hin2
  obtain ⟨s3, h3, hl3, hin3, hf3⟩ := finishRmw_writes s2 0 _ (by rw [hin2]; rfl) hl2 (hidx ▸ hi)
  rw [hin2] at hin3
  obtain ⟨s4, h4, -, hin4, hf4⟩ := finishRmw_writes s3 0 _ (by rw [hin3]; rfl) hl3 hi
  have hrewritten : s.FieldRewritten s4 q (if n = 0 then 0b000 else 0b001) := by
    refine fieldRewritten_of_fsel s s4 q _ hi ?_
    rw [hf4, hf3, hf2, hf1]
    simp only [hidx, Vector.set_set, State.fselWord, hf1, dif_pos hi]
  exact ⟨s1, s2, s3, s4, h1, h2, h3, h4, by rw [hin4, hin3]; rfl, hrewritten.modeOf_other p hp hne, hrewritten.modeOf_same hq⟩

end Sys2Proof.Machine

/-! ## Two callers that write one pin -/

namespace Sys2Proof.Machine

/-- The words of a WRITE_PIN of a pin and a value in range are decoded as that request (R302). -/
theorem decode_encode_writePin (p : Nat) (v : Int) (hp : p < 64) (hv : v = 0 ∨ v = 1) :
    decode (encode (.writePin p v)) = .ok (.writePin p v) := by
  have hrsv : rsvField (opcode (.writePin p v)) = 0 := by rw [opcode]; decide
  have hop : (opField (opcode (.writePin p v))).toNat = 5 := by rw [opcode]; decide
  have hpin : u32 (BitVec.ofNat 32 p) = p := by rw [u32, BitVec.toNat_ofNat]; omega
  have hval : s32 (BitVec.ofInt 32 v) = v := by rcases hv with rfl | rfl <;> rfl
  simp only [decode, encode, hrsv, hop, hpin, hval, ne_eq, not_true_eq_false, if_false]

theorem pinValue_of_valid (v : Int) (h : v = 0 ∨ v = 1) : pinValue v = some (decide (v = 1)) := by
  rcases h with rfl | rfl <;> rfl

/-- What `t` is after a request of caller `c`, with `rest` left to it, has written the value `v` to pin `p` and has its response. -/
structure State.PinWritten (s t : State) (c : Nat) (rest : List Request) (p : Nat) (v : Int) : Prop where
  running  : t.Running
  req      : t.req = none
  life     : t.life = s.life
  inflight : t.inflight = s.inflight
  pc       : t.pc = s.pc + 1
  queues   : t.queues = s.queues.set c rest
  latch    : t.latch.getLsbD p = decide (v = 1)

theorem pinWritten_of_answer (s : State) (e : Env) (c : Nat) (r : Request) (rest : List Request) (l : BitVec 64) (x : Txn) (rsp : Rsp)
    (p : Nat) (v : Int) (hr : s.Running) (h : l.getLsbD p = decide (v = 1)) :
    s.PinWritten (((((s.setEnv e).issueNext c r rest).setLatch l).logTxn x).answer rsp) c rest p v := by
  constructor
  case running => simpa [State.Running] using hr
  case latch => simpa using h
  all_goals simp

/-- With nothing in flight, the caller that alone has a request left may issue, and that is the one move. -/
theorem ready_of_lone_queue (s : State) (d : Nat) (hl : s.life = .mapped) (hin : s.inflight = [])
    (h : ∀ y, s.queueOf y ≠ [] ↔ y = d) : s.ready = [d] ∧ s.moves = 1 := by
  have hready : s.ready = [d] := ready_eq_singleton s d fun y => by
    rw [mem_ready_iff, h y]
    simp [hl, hin]
  exact ⟨hready, by simp [State.moves, hready, hin]⟩

section
variable {s : State} {p : Nat} (hr : s.Running) (hq : s.req = none) (hl : s.life = .mapped) (hp : p < 64)
include hr hq hl hp

/-- A caller's WRITE_PIN from its issue to its response is two steps. -/
theorem step_step_writePin (v : Int) (rest : List Request) (j c : Nat) (e : Env) (hv : v = 0 ∨ v = 1) (hj : s.ready[j]? = some c)
    (hc : s.queueOf c = encode (.writePin p v) :: rest) (he : s.Takes (s.inflight.length + j) e) :
    ∃ t u, step s = .next t ∧ step t = .next u ∧ s.PinWritten u c rest p v := by
  have hissue := step_issues s j c e _ rest hr hq hj hc he
  have hwrite := execWritePin_mapped ((s.setEnv e).issueNext c (encode (.writePin p v)) rest) p v _ hl (pinValue_of_valid v hv)
    ((bitReg_lt_iff p).mpr hp)
  have hstep : step ((s.setEnv e).issueNext c (encode (.writePin p v)) rest)
      = execWritePin p v ((s.setEnv e).issueNext c (encode (.writePin p v)) rest) := by
    rw [step_of_req ((s.setEnv e).issueNext c _ rest) _ hr rfl, performRequest, decode_encode_writePin p v hp hv]
    rfl
  exact ⟨_, _, hissue, hstep.trans hwrite,
    pinWritten_of_answer s e c _ rest _ _ _ p v hr ((getLsbD_written _ p _ p hp).trans (if_pos rfl))⟩

/-- The callers `c` and `d` have one WRITE_PIN of the pin each, no other caller has a request, and `c` is chosen: both respond, and
the latch ends at `d`'s value (R211). -/
theorem writePin_race (v w : Int) (c d j : Nat) (e : Env) (hin : s.inflight = []) (hv : v = 0 ∨ v = 1) (hw : w = 0 ∨ w = 1)
    (hc : s.queueOf c = [encode (.writePin p v)]) (hd : s.queueOf d = [encode (.writePin p w)]) (hdc : d ≠ c)
    (hothers : ∀ y, y ≠ c → y ≠ d → s.queueOf y = []) (hj : s.ready[j]? = some c) (he : s.Takes j e) :
    ∃ s1 s2 s3 s4, step s = .next s1 ∧ step s1 = .next s2 ∧ step s2 = .next s3 ∧ step s3 = .next s4
      ∧ s4.pc = s.pc + 2 ∧ s4.queues = (s.queues.set c []).set d [] ∧ s4.req = none ∧ s4.latch.getLsbD p = decide (w = 1) := by
  obtain ⟨s1, s2, h1, h2, hfirst⟩ := step_step_writePin hr hq hl hp v [] j c e hv hj hc (by simpa [hin] using he)
  have hl2 : s2.life = .mapped := hfirst.life.trans hl
  have hin2 : s2.inflight = [] := hfirst.inflight.trans hin
  have hqueue : ∀ y, s2.queueOf y = if y = c then [] else s.queueOf y := fun y => by
    rw [← queueOf_issueNext s c y (encode (.writePin p v)) [] (by simp [hc]), State.queueOf, hfirst.queues]
    rfl
  have hlone : ∀ y, s2.queueOf y ≠ [] ↔ y = d := fun y => by
    rw [hqueue]
    by_cases hyc : y = c
    · simp [hyc, hdc.symm]
    · rw [if_neg hyc]
      exact ⟨fun h => by_contra fun hyd => h (hothers y hyc hyd), fun h => by simp [h, hd]⟩
  obtain ⟨hready, hmoves⟩ := ready_of_lone_queue s2 d hl2 hin2 hlone
  obtain ⟨s3, s4, h3, h4, hsecond⟩ := step_step_writePin hfirst.running hfirst.req hl2 hp w [] 0 d s2.env hw
    (by rw [hready]; rfl) (by rw [hqueue, if_neg hdc, hd]) (.inl ⟨hmoves, rfl⟩)
  exact ⟨s1, s2, s3, s4, h1, h2, h3, h4, by rw [hsecond.pc, hfirst.pc], by rw [hsecond.queues, hfirst.queues], hsecond.req,
    hsecond.latch⟩

end

/-- Settles O50: the caller chosen writes the pin and has its response, then the other, the only one left, does. -/
theorem writersOfOnePinRace : Obligations.WritersOfOnePinRace := by
  unfold Obligations.WritersOfOnePinRace
  intro s p v w k ts hr hq hl hs hin hp hv hw hqs hk hts
  have hready : s.ready = [0, 1] := by
    simp [State.ready, State.mayIssue, State.queueOf, List.range_succ, hl, hs, hin, hqs]
  have htakes : s.Takes k { s.env with turns := ts, drawn := s.env.drawn + 1 } :=
    .inr ⟨by simp [State.moves, hready], ts, hts, rfl⟩
  have hothers : ∀ x, x ≠ 0 → x ≠ 1 → s.queueOf x = [] := fun x h0 h1 => by
    rw [State.queueOf, hqs, List.getElem?_eq_none (by change 2 ≤ x; omega), Option.getD_none]
  have h0 : s.queueOf 0 = [encode (.writePin p v)] := by rw [State.queueOf, hqs]; rfl
  have h1 : s.queueOf 1 = [encode (.writePin p w)] := by rw [State.queueOf, hqs]; rfl
  have hj : s.ready[k]? = some k := by
    obtain rfl | rfl : k = 0 ∨ k = 1 := by omega
    all_goals rw [hready]; rfl
  obtain rfl | rfl : k = 0 ∨ k = 1 := by omega
  · have h := writePin_race hr hq hl hp v w 0 1 0 _ hin hv hw h0 h1 (by decide) hothers hj htakes
    rwa [hqs] at h
  · have h := writePin_race hr hq hl hp w v 1 0 1 _ hin hw hv h1 h0 (by decide) (fun y hy1 hy0 => hothers y hy0 hy1) hj htakes
    rwa [hqs] at h

end Sys2Proof.Machine

/-! # The encoding: reserved requests, and the decoder and the encoder as inverses -/

/-! ## The fields of W0: which requests are reserved (R304) -/

namespace Sys2Proof

theorem rsvField_toNat (w : Word) : (rsvField w).toNat = w.toNat / 16 := by
  rw [rsvField, BitVec.extractLsb'_toNat, Nat.shiftRight_eq_div_pow]
  omega

theorem opField_toNat (w : Word) : (opField w).toNat = w.toNat % 16 := by
  rw [opField, BitVec.extractLsb'_toNat, Nat.shiftRight_zero]

theorem rsvField_eq_zero_iff (w : Word) : rsvField w = 0 ↔ w.toNat / 16 = 0 := by
  rw [← rsvField_toNat, BitVec.toNat_eq]
  rfl

/-- A W0 that R304 reserves: W0[31:4] is not 0, or OP is 0x0 or 0x9 to 0xF. -/
def ReservedW0 (w : Word) : Prop := w.toNat / 16 ≠ 0 ∨ w.toNat % 16 = 0 ∨ 9 ≤ w.toNat % 16

theorem decode_reservedBits (r : Request) (h : r.w0.toNat / 16 ≠ 0) : decode r = .error .reservedBits :=
  if_pos (mt (rsvField_eq_zero_iff r.w0).mp h)

theorem decode_reservedOpcode (r : Request) (hrsv : r.w0.toNat / 16 = 0) (hop : r.w0.toNat % 16 = 0 ∨ 9 ≤ r.w0.toNat % 16) :
    decode r = .error .reservedOpcode := by
  rw [← opField_toNat] at hop
  rw [decode, if_neg (not_not.mpr ((rsvField_eq_zero_iff r.w0).mpr hrsv))]
  split
  case h_9 => rfl
  all_goals omega

theorem decode_of_reservedW0 (r : Request) (h : ReservedW0 r.w0) : ∃ e, decode r = .error e := by
  by_cases hrsv : r.w0.toNat / 16 = 0
  · exact ⟨_, decode_reservedOpcode r hrsv (h.resolve_left (not_not.mpr hrsv))⟩
  · exact ⟨_, decode_reservedBits r hrsv⟩

/-- A W0 that R304 does not reserve is one that R303 gives an operation. -/
theorem exists_opcode_of_not_reservedW0 (w : Word) (h : ¬ ReservedW0 w) : ∃ i, w = opcode i := by
  have hw : w = 1 ∨ w = 2 ∨ w = 3 ∨ w = 4 ∨ w = 5 ∨ w = 6 ∨ w = 7 ∨ w = 8 := by
    unfold ReservedW0 at h
    bv_omega
  rcases hw with rfl | rfl | rfl | rfl | rfl | rfl | rfl | rfl
  exacts [⟨.fselIndex 0, rfl⟩, ⟨.fselOffset 0, rfl⟩, ⟨.bitIndex 0, rfl⟩, ⟨.configureMode 0 0, rfl⟩, ⟨.writePin 0 0, rfl⟩,
    ⟨.readPin 0, rfl⟩, ⟨.bind 0 0, rfl⟩, ⟨.unbind, rfl⟩]

/-! ## The decoder on the W0 of an operation: it reads that operation's operands (R302, R303) -/

/-- The operation of `i`, its operands read from the words of `r` as R302 says. -/
def Instr.readOperands (i : Instr) (r : Request) : Instr :=
  match i with
  | .fselIndex _       => .fselIndex (u32 r.w1)
  | .fselOffset _      => .fselOffset (u32 r.w1)
  | .bitIndex _        => .bitIndex (u32 r.w1)
  | .configureMode _ _ => .configureMode (u32 r.w1) (s32 r.w2)
  | .writePin _ _      => .writePin (u32 r.w1) (s32 r.w2)
  | .readPin _         => .readPin (u32 r.w1)
  | .bind _ _          => .bind (u32 r.w1) (u32 r.w2)
  | .unbind            => .unbind

theorem encode_w0 (i : Instr) : (encode i).w0 = opcode i := by cases i <;> rfl

theorem legalW0_opcode (i : Instr) : Laws.LegalOpcode.LegalW0 (opcode i) := by
  rw [← encode_w0]
  cases i
  exacts [Laws.LegalOpcode.fselIndex _, Laws.LegalOpcode.fselOffset _, Laws.LegalOpcode.bitIndex _, Laws.LegalOpcode.configureMode _ _,
    Laws.LegalOpcode.writePin _ _, Laws.LegalOpcode.readPin _, Laws.LegalOpcode.bind _ _, Laws.LegalOpcode.unbind]

theorem decode_of_opcode (i : Instr) (r : Request) (h : r.w0 = opcode i) : decode r = .ok (i.readOperands r) := by
  rw [decode, h, if_neg (not_not.mpr (legalW0_opcode i).left)]
  cases i <;> rfl

/-- Only the W0 of an operation decodes, to that operation with the operands read. -/
theorem exists_opcode_of_decode (r : Request) (i : Instr) (h : decode r = .ok i) : ∃ j, r.w0 = opcode j ∧ i = j.readOperands r := by
  by_cases hres : ReservedW0 r.w0
  · obtain ⟨e, he⟩ := decode_of_reservedW0 r hres
    cases he.symm.trans h
  · obtain ⟨j, hj⟩ := exists_opcode_of_not_reservedW0 r.w0 hres
    exact ⟨j, hj, Except.ok.inj (h.symm.trans (decode_of_opcode j r hj))⟩

/-! ## One operand word: its value and the word of that value -/

@[simp] theorem isU32_u32 (w : Word) : isU32 (u32 w) = true := decide_eq_true w.isLt

@[simp] theorem isS32_s32 (w : Word) : isS32 (s32 w) = true := by
  rw [isS32, Bool.and_eq_true]
  exact ⟨decide_eq_true w.le_toInt, decide_eq_true w.toInt_lt⟩

theorem u32_ofNat (n : Nat) (h : isU32 n = true) : u32 (BitVec.ofNat 32 n) = n :=
  Nat.mod_eq_of_lt (of_decide_eq_true h)

theorem ofNat_u32 (w : Word) : BitVec.ofNat 32 (u32 w) = w := by simp [u32]

theorem s32_ofInt (z : Int) (h : isS32 z = true) : s32 (BitVec.ofInt 32 z) = z := by
  rw [isS32, Bool.and_eq_true, decide_eq_true_iff, decide_eq_true_iff] at h
  exact BitVec.toInt_ofInt_eq_self (by decide) h.1 h.2

/-! ## The operands of a request: read back, and written again -/

theorem Instr.readOperands_wf (i : Instr) (r : Request) : (i.readOperands r).wf = true := by
  cases i <;> simp [Instr.readOperands, Instr.wf]

theorem Instr.readOperands_encode (i : Instr) (h : i.wf = true) : i.readOperands (encode i) = i := by
  cases i with
  | fselIndex pin          => exact congrArg Instr.fselIndex (u32_ofNat pin h)
  | fselOffset pin         => exact congrArg Instr.fselOffset (u32_ofNat pin h)
  | bitIndex pin           => exact congrArg Instr.bitIndex (u32_ofNat pin h)
  | configureMode pin mode =>
    obtain ⟨hp, hm⟩ := Bool.and_eq_true_iff.mp h
    exact congrArg₂ Instr.configureMode (u32_ofNat pin hp) (s32_ofInt mode hm)
  | writePin pin value     =>
    obtain ⟨hp, hv⟩ := Bool.and_eq_true_iff.mp h
    exact congrArg₂ Instr.writePin (u32_ofNat pin hp) (s32_ofInt value hv)
  | readPin pin            => exact congrArg Instr.readPin (u32_ofNat pin h)
  | bind base size         =>
    obtain ⟨hb, hz⟩ := Bool.and_eq_true_iff.mp h
    exact congrArg₂ Instr.bind (u32_ofNat base hb) (u32_ofNat size hz)
  | unbind                 => rfl

theorem encode_readOperands_w0 (i : Instr) (r : Request) : (encode (i.readOperands r)).w0 = opcode i := by
  rw [encode_w0]
  cases i <;> rfl

theorem encode_readOperands_w1 (i : Instr) (r : Request) (h : i.readOperands r ≠ .unbind) :
    (encode (i.readOperands r)).w1 = r.w1 := by
  cases i
  case unbind => exact absurd rfl h
  all_goals exact ofNat_u32 r.w1

theorem encode_readOperands_w2 (i : Instr) (r : Request)
    (h : (∃ p m, i.readOperands r = .configureMode p m) ∨ (∃ p v, i.readOperands r = .writePin p v)
      ∨ (∃ b z, i.readOperands r = .bind b z)) :
    (encode (i.readOperands r)).w2 = r.w2 := by
  cases i
  case configureMode => exact BitVec.ofInt_toInt
  case writePin      => exact BitVec.ofInt_toInt
  case bind          => exact ofNat_u32 r.w2
  all_goals simp [Instr.readOperands] at h

/-- What the encoder writes, the decoder reads back (R302, R303). -/
theorem decode_encode (i : Instr) (h : i.wf = true) : decode (encode i) = .ok i := by
  rw [decode_of_opcode i (encode i) (encode_w0 i), i.readOperands_encode h]

end Sys2Proof

/-! ## The obligations of the encoding -/

namespace Sys2Proof.Machine

/-- Settles O4, by what the decoder reads from the W0 of each operation. -/
theorem decodeInvertsEncode : Obligations.DecodeInvertsEncode := by
  unfold Obligations.DecodeInvertsEncode
  exact decode_encode

/-- Settles O5: a request that decodes holds the W0 of an operation, and the operands were read from its words. -/
theorem encodeInvertsDecode : Obligations.EncodeInvertsDecode := by
  unfold Obligations.EncodeInvertsDecode
  intro r i h
  obtain ⟨j, hw0, rfl⟩ := exists_opcode_of_decode r i h
  exact ⟨j.readOperands_wf r, (encode_readOperands_w0 j r).trans hw0.symm, encode_readOperands_w1 j r, encode_readOperands_w2 j r⟩

/-- Settles O2: a reserved request is rejected, so performing it refuses; any other holds the W0 of an operation. -/
theorem reservedRequestsAreRefused : Obligations.ReservedRequestsAreRefused := by
  unfold Obligations.ReservedRequestsAreRefused
  refine fun r => ⟨fun hres s hr hq => ?_, fun hres => ?_⟩
  · obtain ⟨e, he⟩ := decode_of_reservedW0 r hres
    rw [step_of_req s r hr hq, performRequest, he]
    rfl
  · obtain ⟨i, hi⟩ := exists_opcode_of_not_reservedW0 r.w0 hres
    exact ⟨_, decode_of_opcode i r hi⟩

/-- Settles O1, by the one equation of the decoder at each of the eight W0. -/
theorem everyOperandValueDecodes : Obligations.EveryOperandValueDecodes := by
  unfold Obligations.EveryOperandValueDecodes
  exact fun a b => ⟨decode_of_opcode (.fselIndex 0) ⟨1, a, b⟩ rfl, decode_of_opcode (.fselOffset 0) ⟨2, a, b⟩ rfl,
    decode_of_opcode (.bitIndex 0) ⟨3, a, b⟩ rfl, decode_of_opcode (.configureMode 0 0) ⟨4, a, b⟩ rfl,
    decode_of_opcode (.writePin 0 0) ⟨5, a, b⟩ rfl, decode_of_opcode (.readPin 0) ⟨6, a, b⟩ rfl,
    decode_of_opcode (.bind 0 0) ⟨7, a, b⟩ rfl, decode_of_opcode .unbind ⟨8, a, b⟩ rfl⟩

theorem assemble_expand (a : Asm) : a.expand.assemble = a.assemble := by cases a <;> rfl

/-- Settles O47: a line and its request hold the same W0, and the words of the same operands. -/
theorem assemblerLinesAreTheirRequests : Obligations.AssemblerLinesAreTheirRequests := by
  unfold Obligations.AssemblerLinesAreTheirRequests
  intro pin base size z
  simp only [Asm.assemble, encode, opcode, asmWord, BitVec.ofInt_natCast, true_and]
  exact assemble_expand

end Sys2Proof.Machine

/-! # The Register Map: the mode field's encoder, and what the three pure requests answer -/

namespace Sys2Proof.Machine

/-! ## The mode field (R405, R406) -/

theorem getLsbD_encodeFsel_inside (w : Word) (off : Nat) (c : BitVec 3) (k : Nat) (hoff : off + 3 ≤ 32) (hk : k < 3) :
    (encodeFsel w off c).getLsbD (off + k) = c.getLsbD k := by
  rw [getLsbD_encodeFsel _ _ _ _ (by omega), if_pos (by omega), Nat.add_sub_cancel_left]

theorem getLsbD_encodeFsel_outside (w : Word) (off : Nat) (c : BitVec 3) (b : Nat) (hb : b < 32) (h : b < off ∨ off + 2 < b) :
    (encodeFsel w off c).getLsbD b = w.getLsbD b := by
  rw [getLsbD_encodeFsel _ _ _ _ hb, if_neg (by omega)]

/-- Settles O15: a bit of the encoded word is the code's inside the field and the word's outside, and the field ends at bit 29. -/
theorem modeFieldEncoderReplacesOneField : Obligations.ModeFieldEncoderReplacesOneField := by
  unfold Obligations.ModeFieldEncoderReplacesOneField
  intro w p c
  have hle := fselOffset_le p
  exact ⟨by omega, fun k => getLsbD_encodeFsel_inside w _ c k (by omega),
    getLsbD_encodeFsel_outside w _ c, decodeFsel_encodeFsel w _ c (by omega)⟩

/-! ## The indexes and offsets of a pin fit one word (R401) -/

theorem toNat_wordOf (n : Nat) (h : n < 2 ^ 32) : (wordOf n).toNat = n := u32_ofNat n (decide_eq_true h)

theorem fselIndex_toNat_le (a : Word) : fselIndex a.toNat ≤ 429496729 := by
  have := a.isLt
  unfold fselIndex
  omega

theorem bitReg_toNat_le (a : Word) : bitReg a.toNat ≤ 134217727 := by
  have := a.isLt
  unfold bitReg
  omega

theorem toNat_wordOf_fselIndex (a : Word) : (wordOf (fselIndex a.toNat)).toNat = fselIndex a.toNat :=
  toNat_wordOf _ (by have := fselIndex_toNat_le a; omega)

theorem toNat_wordOf_fselOffset (p : Nat) : (wordOf (fselOffset p)).toNat = fselOffset p :=
  toNat_wordOf _ (by have := fselOffset_le p; omega)

theorem toNat_wordOf_bitReg (a : Word) : (wordOf (bitReg a.toNat)).toNat = bitReg a.toNat :=
  toNat_wordOf _ (by have := bitReg_toNat_le a; omega)

theorem toNat_wordOf_bitPos (p : Nat) : (wordOf (bitPos p)).toNat = bitPos p :=
  toNat_wordOf _ (by have := bitPos_lt p; omega)

/-! ## The answers (R402 to R404) -/

theorem State.onlyResponds_answer (s : State) (r : Rsp) : s.OnlyResponds (s.answer r) r := rfl

theorem exec_fselIndex (pin : Nat) (s : State) :
    exec (.fselIndex pin) s = .next (s.answer ⟨0, wordOf (fselIndex pin), 0⟩) := rfl

theorem exec_fselOffset (pin : Nat) (s : State) :
    exec (.fselOffset pin) s = .next (s.answer ⟨0, wordOf (fselOffset pin), 0⟩) := rfl

theorem exec_bitIndex (pin : Nat) (s : State) :
    exec (.bitIndex pin) s = .next (s.answer ⟨0, wordOf (bitReg pin), wordOf (bitPos pin)⟩) := rfl

/-- Settles O12: the answer is the register index, at most the index of the largest operand, so D0 holds it whole. -/
theorem fselIndexAnswersTheRegisterIndex : Obligations.FselIndexAnswersTheRegisterIndex := by
  unfold Obligations.FselIndexAnswersTheRegisterIndex
  intro s a b
  have hd0 := toNat_wordOf_fselIndex a
  exact ⟨decode_of_opcode (.fselIndex 0) ⟨1, a, b⟩ rfl, _, exec_fselIndex _ s, s.onlyResponds_answer _, rfl, hd0,
    hd0.trans_le (fselIndex_toNat_le a), rfl⟩

/-- Settles O13: the answer is the field's offset, three times the pin's place among the ten of its register. -/
theorem fselOffsetAnswersTheFieldOffset : Obligations.FselOffsetAnswersTheFieldOffset := by
  unfold Obligations.FselOffsetAnswersTheFieldOffset
  intro s a b
  have hd0 := toNat_wordOf_fselOffset a.toNat
  have hplace : a.toNat % 10 < 10 := Nat.mod_lt _ (by decide)
  exact ⟨decode_of_opcode (.fselOffset 0) ⟨2, a, b⟩ rfl, _, exec_fselOffset _ s, s.onlyResponds_answer _, rfl, hd0,
    ⟨_, hplace, hd0.trans (fselOffset_eq _)⟩, rfl⟩

/-- Settles O14: the answer is the register index and the bit position, each small enough for its word to hold it whole. -/
theorem bitIndexAnswersRegisterAndBit : Obligations.BitIndexAnswersRegisterAndBit := by
  unfold Obligations.BitIndexAnswersRegisterAndBit
  intro s a b
  have hd0 := toNat_wordOf_bitReg a
  have hd1 := toNat_wordOf_bitPos a.toNat
  exact ⟨decode_of_opcode (.bitIndex 0) ⟨3, a, b⟩ rfl, _, exec_bitIndex _ s, s.onlyResponds_answer _, rfl, hd0,
    hd0.trans_le (bitReg_toNat_le a), hd1, hd1.trans_le (Nat.le_of_lt_succ (bitPos_lt _))⟩

end Sys2Proof.Machine

/-! # The Pin Controller: its checks, the effect of each request past them, and what no request does without a mapping -/

/-! ## The checks of R450, in their order: LIFE, operand value, register range -/

namespace Sys2Proof.Machine

theorem execConfigureMode_unmapped (s : State) (pin : Nat) (mode : Int) (hl : s.life ≠ .mapped) :
    execConfigureMode pin mode s = .next (s.answer ⟨1, 0, 0⟩) := if_pos hl

theorem execConfigureMode_invalid (s : State) (pin : Nat) (mode : Int) (hl : s.life = .mapped) (hm : modeCode mode = none) :
    execConfigureMode pin mode s = .next (s.answer ⟨2, 0, 0⟩) := by
  rw [execConfigureMode, if_neg (not_not.mpr hl), hm]
  rfl

theorem execConfigureMode_range (s : State) (pin : Nat) (mode : Int) (c : BitVec 3) (hl : s.life = .mapped)
    (hm : modeCode mode = some c) (hp : 60 ≤ pin) : execConfigureMode pin mode s = raise .pinRange s := by
  rw [execConfigureMode, if_neg (not_not.mpr hl), hm]
  exact if_neg (by simpa using hp)

theorem execWritePin_unmapped (s : State) (pin : Nat) (value : Int) (hl : s.life ≠ .mapped) :
    execWritePin pin value s = .next (s.answer ⟨1, 0, 0⟩) := if_pos hl

theorem execWritePin_invalid (s : State) (pin : Nat) (value : Int) (hl : s.life = .mapped) (hv : pinValue value = none) :
    execWritePin pin value s = .next (s.answer ⟨3, 0, 0⟩) := by
  rw [execWritePin, if_neg (not_not.mpr hl), hv]
  rfl

theorem execWritePin_range (s : State) (pin : Nat) (value : Int) (b : Bool) (hl : s.life = .mapped)
    (hv : pinValue value = some b) (hp : 64 ≤ pin) : execWritePin pin value s = raise .pinRange s := by
  rw [execWritePin, if_neg (not_not.mpr hl), hv]
  exact if_neg (by simpa using hp)

/-- Settles O16: each check has its own answer, whatever the checks after it would say. -/
theorem pinControllerChecksInOrder : Obligations.PinControllerChecksInOrder := by
  unfold Obligations.PinControllerChecksInOrder
  refine fun s pin z => ⟨fun hl => ?_, fun hl h0 h1 => ?_, fun hl hf => ?_⟩
  · exact ⟨⟨_, execConfigureMode_unmapped s pin z hl, s.onlyResponds_answer _⟩,
      ⟨_, execWritePin_unmapped s pin z hl, s.onlyResponds_answer _⟩, ⟨_, execReadPin_unmapped s pin hl, s.onlyResponds_answer _⟩⟩
  · exact ⟨⟨_, execConfigureMode_invalid s pin z hl ((modeCode_eq_none_iff z).mpr ⟨h0, h1⟩), s.onlyResponds_answer _⟩,
      ⟨_, execWritePin_invalid s pin z hl ((pinValue_eq_none_iff z).mpr ⟨h0, h1⟩), s.onlyResponds_answer _⟩⟩
  · have hfault : raise .pinRange s = .next { s with fault := 1 } := raise_first .pinRange s hf
    exact ⟨fun hz hp => (execConfigureMode_range s pin z _ hl (modeCode_of_valid z hz) hp).trans hfault,
      fun hz hp => (execWritePin_range s pin z _ hl (pinValue_of_valid z hz) hp).trans hfault,
      fun hp => (execReadPin_range s pin hl (by rw [bitReg_lt_iff]; omega)).trans hfault⟩

/-! ## The effect of each request past its checks (R451 to R453) -/

/-- Settles O17: past its checks, the request's two transactions are to the register of the pin's field. -/
theorem configureModeRewritesOneRegister : Obligations.ConfigureModeRewritesOneRegister := by
  unfold Obligations.ConfigureModeRewritesOneRegister
  intro s pin mode hl hs hp hm
  have hi : fselIndex pin < 6 := (fselIndex_lt_iff pin).mpr hp
  rw [exec, execConfigureMode_serialized s pin mode _ hl (modeCode_of_valid mode hm) hi hs, fselOffset_eq, Nat.zero_add,
    ← fselWord_eq_getElem s _ hi]
  refine ⟨_, rfl, ?_, fun j hj => fselWord_of_set s _ _ hi _ rfl j hj⟩
  simp only [State.answer, State.logTxn, State.setFsel, List.append_assoc]
  rfl

/-- Settles O24: the one strobe write carries the pin's own latch bit. -/
theorem writePinSetsOneLatchBit : Obligations.WritePinSetsOneLatchBit := by
  unfold Obligations.WritePinSetsOneLatchBit
  intro s pin value hl hp hv
  have hi : bitReg pin < 2 := (bitReg_lt_iff pin).mpr hp
  refine ⟨_, execWritePin_mapped s pin value _ hl (pinValue_of_valid value hv) hi, ?_, fun p hp => getLsbD_written _ pin _ p hp⟩
  simp only [decide_eq_true_eq]
  rfl

theorem levelWord_loopback (i : Nat) (s : State) (h : s.cfg.levelMode = .loopback) : levelWord i s = (latchWord i s.latch, s) := by
  rw [levelWord, h]

theorem levelWord_external (i : Nat) (s : State) (h : s.cfg.levelMode = .external) : levelWord i s = drawLevel s := by
  rw [levelWord, h]

/-- The pin's bit of its level word in `loopback` is its latch bit (R115). -/
theorem getLsbD_latchWord_pin (pin : Nat) (l : BitVec 64) : (latchWord (bitReg pin) l).getLsbD (bitPos pin) = l.getLsbD pin := by
  rw [getLsbD_latchWord _ _ _ (bitPos_lt pin), bitReg_bitPos]

/-- Settles O25: in `loopback` the level word read is the latch bits of the pin's register index. -/
theorem readPinReturnsTheLatchInLoopback : Obligations.ReadPinReturnsTheLatchInLoopback := by
  unfold Obligations.ReadPinReturnsTheLatchInLoopback
  intro s pin hl hlev hp
  rw [exec, execReadPin_mapped s pin hl ((bitReg_lt_iff pin).mpr hp), levelWord_loopback _ s hlev, getLsbD_latchWord_pin]
  exact ⟨_, _, rfl, rfl, fun b hb => getLsbD_latchWord _ b _ hb⟩

/-- The level word drawn is the next one ready. -/
theorem drawLevel_fst_ready (s : State) (l : Word) (ls : List Word) (h : s.env.levels = l :: ls) : (drawLevel s).1 = l := by
  rw [drawLevel, h]

/-- Where no level word is ready, the one drawn is a free value. -/
theorem drawLevel_fst_free (s : State) (h : s.env.levels = []) : (drawLevel s).1 = Config.freeLevel s.env.drawn := by
  rw [drawLevel, h]

/-- Settles O26: in `external` the level word read is the word drawn. -/
theorem readPinReturnsADrawWhenExternal : Obligations.ReadPinReturnsADrawWhenExternal := by
  unfold Obligations.ReadPinReturnsADrawWhenExternal
  intro s pin hl hlev hp
  rw [exec, execReadPin_mapped s pin hl ((bitReg_lt_iff pin).mpr hp), levelWord_external _ s hlev, drawLevel_snd]
  exact ⟨_, (drawLevel s).1, rfl, rfl, rfl, drawLevel_fst_ready s, drawLevel_fst_free s⟩

end Sys2Proof.Machine

/-! ## Performing a request a second time (R454) -/

namespace Sys2Proof.Machine

/-- A field written twice is the field written once (R405). -/
theorem encodeFsel_encodeFsel (w : Word) (off : Nat) (c : BitVec 3) : encodeFsel (encodeFsel w off c) off c = encodeFsel w off c := by
  refine BitVec.eq_of_getLsbD_eq fun b hb => ?_
  rw [getLsbD_encodeFsel _ _ _ _ hb, getLsbD_encodeFsel _ _ _ _ hb]
  split <;> rfl

theorem strobeSet_strobeSet (i : Nat) (v : Word) (l : BitVec 64) : strobeSet i v (strobeSet i v l) = strobeSet i v l := by
  rw [strobeSet, strobeSet, BitVec.or_assoc, BitVec.or_self]

theorem strobeClr_strobeClr (i : Nat) (v : Word) (l : BitVec 64) : strobeClr i v (strobeClr i v l) = strobeClr i v l := by
  rw [strobeClr, strobeClr, BitVec.and_assoc, BitVec.and_self]

/-- The three requests of 41_pin_controller.md. -/
def Instr.IsPinController (i : Instr) : Prop :=
  (∃ p m, i = .configureMode p m) ∨ (∃ p v, i = .writePin p v) ∨ (∃ p, i = .readPin p)

/-- `u` has the registers, the latches, LIFE and the status of `t`. -/
def State.SameOutcome (t u : State) : Prop :=
  u.fsel = t.fsel ∧ u.latch = t.latch ∧ u.life = t.life ∧ u.rsp.status = t.rsp.status

/-- Whether a Pin Controller request passes the checks of R450, and what it answers where it does not, is settled by its operands and by
LIFE. -/
theorem pinController_checks (i : Instr) (hi : Instr.IsPinController i) (l : Life) :
    (∃ r, ∀ s : State, s.life = l → exec i s = .next (s.answer r))
    ∨ (∀ s : State, s.life = l → exec i s = raise .pinRange s)
    ∨ (l = .mapped ∧ ((∃ p m c, i = .configureMode p m ∧ modeCode m = some c ∧ fselIndex p < 6)
        ∨ (∃ p v b, i = .writePin p v ∧ pinValue v = some b ∧ bitReg p < 2) ∨ (∃ p, i = .readPin p ∧ bitReg p < 2))) := by
  by_cases hl : l = .mapped
  · subst hl
    obtain ⟨p, m, rfl⟩ | ⟨p, v, rfl⟩ | ⟨p, rfl⟩ := hi
    · cases hm : modeCode m with
      | none => exact .inl ⟨_, fun s hl => execConfigureMode_invalid s p m hl hm⟩
      | some c =>
        by_cases hp : p < 60
        · exact .inr (.inr ⟨rfl, .inl ⟨p, m, c, rfl, hm, (fselIndex_lt_iff p).mpr hp⟩⟩)
        · exact .inr (.inl fun s hl => execConfigureMode_range s p m c hl hm (not_lt.mp hp))
    · cases hv : pinValue v with
      | none => exact .inl ⟨_, fun s hl => execWritePin_invalid s p v hl hv⟩
      | some b =>
        by_cases hp : p < 64
        · exact .inr (.inr ⟨rfl, .inr (.inl ⟨p, v, b, rfl, hv, (bitReg_lt_iff p).mpr hp⟩)⟩)
        · exact .inr (.inl fun s hl => execWritePin_range s p v b hl hv (not_lt.mp hp))
    · by_cases hp : bitReg p < 2
      · exact .inr (.inr ⟨rfl, .inr (.inr ⟨p, rfl, hp⟩)⟩)
      · exact .inr (.inl fun s hl => execReadPin_range s p hl hp)
  · refine .inl ⟨⟨1, 0, 0⟩, fun s hs => ?_⟩
    obtain ⟨p, m, rfl⟩ | ⟨p, v, rfl⟩ | ⟨p, rfl⟩ := hi
    · exact execConfigureMode_unmapped s p m (hs ▸ hl)
    · exact execWritePin_unmapped s p v (hs ▸ hl)
    · exact execReadPin_unmapped s p (hs ▸ hl)

section
variable {s t u : State}

/-- What CONFIGURE_MODE past its checks leaves, SERIALIZED true (R451). -/
theorem configureMode_leaves (p : Nat) (m : Int) (c : BitVec 3) (hl : s.life = .mapped) (hm : modeCode m = some c)
    (hi : fselIndex p < 6) (hs : s.cfg.serialized = true) (h : exec (.configureMode p m) s = .next t) :
    t.fsel = s.fsel.set (fselIndex p) (encodeFsel s.fsel[fselIndex p] (fselOffset p) c)
      ∧ t.latch = s.latch ∧ t.life = s.life ∧ t.rsp.status = 0 ∧ t.cfg = s.cfg := by
  rw [exec, execConfigureMode_serialized s p m c hl hm hi hs] at h
  obtain rfl := Host.Outcome.next.inj h
  exact ⟨rfl, rfl, rfl, rfl, rfl⟩

/-- What WRITE_PIN past its checks leaves (R452). -/
theorem writePin_leaves (p : Nat) (v : Int) (b : Bool) (hl : s.life = .mapped) (hv : pinValue v = some b) (hi : bitReg p < 2)
    (h : exec (.writePin p v) s = .next t) :
    t.fsel = s.fsel
      ∧ t.latch = (if b then strobeSet (bitReg p) (onehot p) s.latch else strobeClr (bitReg p) (onehot p) s.latch)
      ∧ t.life = s.life ∧ t.rsp.status = 0 := by
  rw [exec, execWritePin_mapped s p v b hl hv hi] at h
  obtain rfl := Host.Outcome.next.inj h
  exact ⟨rfl, rfl, rfl, rfl⟩

/-- What READ_PIN past its checks leaves (R453). -/
theorem readPin_leaves (p : Nat) (hl : s.life = .mapped) (hi : bitReg p < 2) (h : exec (.readPin p) s = .next t) :
    t.fsel = s.fsel ∧ t.latch = s.latch ∧ t.life = s.life ∧ t.rsp.status = 0 := by
  rw [exec, execReadPin_mapped s p hl hi] at h
  obtain rfl := Host.Outcome.next.inj h
  obtain ⟨e, he⟩ := levelWord_state (bitReg p) s
  simp [he]

theorem configureMode_twice (p : Nat) (m : Int) (c : BitVec 3) (hl : s.life = .mapped) (hm : modeCode m = some c)
    (hi : fselIndex p < 6) (hs : s.cfg.serialized = true) (ht : exec (.configureMode p m) s = .next t)
    (hu : exec (.configureMode p m) t = .next u) : t.SameOutcome u := by
  obtain ⟨hfsel, -, hlife, hstatus, hcfg⟩ := configureMode_leaves p m c hl hm hi hs ht
  obtain ⟨hfsel', hlatch', hlife', hstatus', -⟩ := configureMode_leaves p m c (hlife.trans hl) hm hi (hcfg ▸ hs) hu
  refine ⟨?_, hlatch', hlife', hstatus'.trans hstatus.symm⟩
  simp only [hfsel', hfsel, Vector.getElem_set_self, encodeFsel_encodeFsel, Vector.set_set]

theorem writePin_twice (p : Nat) (v : Int) (b : Bool) (hl : s.life = .mapped) (hv : pinValue v = some b) (hi : bitReg p < 2)
    (ht : exec (.writePin p v) s = .next t) (hu : exec (.writePin p v) t = .next u) : t.SameOutcome u := by
  obtain ⟨-, hlatch, hlife, hstatus⟩ := writePin_leaves p v b hl hv hi ht
  obtain ⟨hfsel', hlatch', hlife', hstatus'⟩ := writePin_leaves p v b (hlife.trans hl) hv hi hu
  refine ⟨hfsel', ?_, hlife', hstatus'.trans hstatus.symm⟩
  rw [hlatch', hlatch]
  cases b
  · exact strobeClr_strobeClr _ _ _
  · exact strobeSet_strobeSet _ _ _

theorem readPin_twice (p : Nat) (hl : s.life = .mapped) (hi : bitReg p < 2) (ht : exec (.readPin p) s = .next t)
    (hu : exec (.readPin p) t = .next u) : t.SameOutcome u := by
  obtain ⟨-, -, hlife, hstatus⟩ := readPin_leaves p hl hi ht
  obtain ⟨hfsel', hlatch', hlife', hstatus'⟩ := readPin_leaves p (hlife.trans hl) hi hu
  exact ⟨hfsel', hlatch', hlife', hstatus'.trans hstatus.symm⟩

/-- A fault raised changes nothing of what a request leaves. -/
theorem raise_sameOutcome (f : FaultCode) (h : raise f t = .next u) : t.SameOutcome u := by
  rw [(raise_next f t u h).1]
  exact ⟨rfl, rfl, rfl, rfl⟩

end

/-- Settles O28: a request that fails a check fails it again, and one that passes writes what it has already written. -/
theorem pinControllerRequestsAreIdempotent : Obligations.PinControllerRequestsAreIdempotent := by
  unfold Obligations.PinControllerRequestsAreIdempotent
  intro s t u i hpin hs ht hu
  obtain ⟨-, hrsvd, hevt, -, -⟩ := exec_frame i t u hu
  suffices hsame : t.SameOutcome u by
    obtain ⟨hfsel, hlatch, hlife, hstatus⟩ := hsame
    exact ⟨hfsel, hrsvd, hevt, hlatch, hlife, hstatus⟩
  obtain ⟨r, hr⟩ | hr | ⟨hl, ⟨p, m, c, rfl, hm, hi⟩ | ⟨p, v, b, rfl, hv, hi⟩ | ⟨p, rfl, hi⟩⟩ := pinController_checks i hpin s.life
  · obtain rfl := Host.Outcome.next.inj ((hr s rfl).symm.trans ht)
    obtain rfl := Host.Outcome.next.inj ((hr (s.answer r) rfl).symm.trans hu)
    exact ⟨rfl, rfl, rfl, rfl⟩
  · have hlife : t.life = s.life := (congrArg State.life (raise_next _ s t ((hr s rfl).symm.trans ht)).1 :)
    exact raise_sameOutcome _ ((hr t hlife).symm.trans hu)
  · exact configureMode_twice p m c hl hm hi hs ht hu
  · exact writePin_twice p v b hl hv hi ht hu
  · exact readPin_twice p hl hi ht hu

end Sys2Proof.Machine

/-! ## No mapping, no register access (R450, R712) -/

namespace Sys2Proof.Machine

/-- A request performed without a mapping changes no function-select register and no latch. -/
theorem exec_unmapped (i : Instr) (s t : State) (hl : s.life ≠ .mapped) (h : exec i s = .next t) :
    t.fsel = s.fsel ∧ t.latch = s.latch := by
  rcases exec_cases i s t h with ⟨_, _, -, rfl⟩ | ⟨-, rfl⟩ | ⟨hm, -⟩ | ⟨hm, -⟩ | ⟨f, -, hf⟩
    | ⟨_, _, _, _, -, -, hm, -⟩ | ⟨_, _, _, _, -, -, hm, -⟩ | ⟨_, _, _, -, -, -, hm, -⟩ | ⟨_, _, _, -, -, hm, -⟩
    | ⟨_, _, _, -, -, -, -, rfl⟩ | ⟨_, _, _, -, -, rfl⟩ | ⟨-, hm, -⟩
  case inr.inr.inr.inr.inl =>
    rw [(raise_next f s t hf).1]
    exact ⟨rfl, rfl⟩
  case inl | inr.inl | inr.inr.inr.inr.inr.inr.inr.inr.inr.inl | inr.inr.inr.inr.inr.inr.inr.inr.inr.inr.inl => exact ⟨rfl, rfl⟩
  all_goals exact absurd hm hl

/-- Nor does a move of the port: the write of a request in flight faults. -/
theorem portMove_unmapped (s t : State) (hl : s.life ≠ .mapped) (h : portMove s = .next t) :
    t.fsel = s.fsel ∧ t.latch = s.latch := by
  rcases portMove_next_cases s t h with rfl | ⟨e, -, -, hf⟩ | ⟨_, _, _, hm, -⟩ | ⟨_, _, _, _, -, -, rfl⟩
  · exact ⟨rfl, rfl⟩
  · rw [(raise_next _ _ t hf).1]
    exact ⟨rfl, rfl⟩
  · exact absurd hm hl
  · exact ⟨rfl, rfl⟩

/-- Settles O43: the transactions a step adds, if any, are issued to a mapping; without one neither a request nor a move of the port
writes a register or a latch. -/
theorem noRegisterAccessWhileUnmapped : Obligations.NoRegisterAccessWhileUnmapped := by
  unfold Obligations.NoRegisterAccessWhileUnmapped
  intro s t hl h
  have hbus : t.bus = s.bus := by
    obtain ⟨xs, hxs, -, hmapped⟩ := step_transacts s t h
    rw [hxs, not_not.mp (mt hmapped hl), List.append_nil]
  refine ⟨hbus, ?_⟩
  obtain ⟨-, -, ⟨r, i, -, -, he⟩ | ⟨r, e, -, -, rfl⟩ | ⟨-, hp⟩⟩ := step_cases s t h
  · exact exec_unmapped i s t hl he
  · exact ⟨rfl, rfl⟩
  · exact portMove_unmapped s t hl hp

end Sys2Proof.Machine

/-! # The lifecycle: BIND and UNBIND, who changes LIFE, the end of a run, and the host's collaborators -/

/-! ## BIND (R500) -/

namespace Sys2Proof.Machine

theorem wordOf_toNat (w : Word) : wordOf w.toNat = w := ofNat_u32 w

/-- A base operand is the address it names, for any parameters that meet R9. -/
theorem zextPaddr_toNat (c : Config) (a : Word) (h : c.wf = true) : zextPaddr c a.toNat = a.toNat := by
  simp only [Config.wf, Bool.and_eq_true, decide_eq_true_eq] at h
  obtain ⟨⟨⟨⟨⟨-, hw⟩, -⟩, -⟩, -⟩, -⟩ := h
  exact zextPaddr_eq c a.toNat hw a.isLt

theorem execBind_lifecycle (s : State) (base size : Nat) (hl : s.life ≠ .unbound) :
    execBind base size s = raise .lifecycle s := if_pos hl

theorem execBind_args (s : State) (base size : Nat) (hl : s.life = .unbound)
    (h : zextPaddr s.cfg base ≠ s.cfg.gpioBase ∨ size ≠ s.cfg.blockSize.toNat) : execBind base size s = raise .bindArgs s := by
  rw [execBind, if_neg (not_not.mpr hl), if_pos h]

/-- BIND past its checks: the outcome drawn decides. -/
theorem execBind_fixed (s : State) (base size : Nat) (hl : s.life = .unbound) (hb : zextPaddr s.cfg base = s.cfg.gpioBase)
    (hz : size = s.cfg.blockSize.toNat) :
    execBind base size s
      = if (drawGrant s).1 then
          respond .ok 0 0 (((drawGrant s).2.setMapping (zextPaddr s.cfg base) (wordOf size)).setLife .mapped)
        else respond .addressMapFailure 0 0 ((drawGrant s).2.setLife .dead) := by
  rw [execBind, if_neg (not_not.mpr hl), if_neg (not_or.mpr ⟨not_not.mpr hb, not_not.mpr hz⟩)]
  obtain ⟨_ | _, t⟩ := drawGrant s
  all_goals rfl

/-- The outcome drawn is the next one ready. -/
theorem drawGrant_fst_ready (s : State) (g : Bool) (gs : List Bool) (h : s.env.grants = g :: gs) : (drawGrant s).1 = g := by
  rw [drawGrant, h]

/-- Where no outcome is ready, the one drawn is a free value. -/
theorem drawGrant_fst_free (s : State) (h : s.env.grants = []) : (drawGrant s).1 = Config.freeGrant s.env.drawn := by
  rw [drawGrant, h]

/-- Settles O31: each check raises its fault, and the first fault is recorded. -/
theorem bindFaultsOnABreachOfContract : Obligations.BindFaultsOnABreachOfContract := by
  unfold Obligations.BindFaultsOnABreachOfContract
  refine fun s a b hwf hf => ⟨fun hl => ?_, fun hl h => ?_⟩
  · exact (execBind_lifecycle s _ _ hl).trans (raise_first .lifecycle s hf)
  · refine (execBind_args s _ _ hl ?_).trans (raise_first .bindArgs s hf)
    rwa [zextPaddr_toNat s.cfg a hwf, ne_eq b.toNat, BitVec.toNat_inj]

/-- Settles O32: past the checks, by the two values the outcome drawn can have. -/
theorem bindMapsOrFailsByTheEnvironment : Obligations.BindMapsOrFailsByTheEnvironment := by
  unfold Obligations.BindMapsOrFailsByTheEnvironment
  intro s a b hwf hl ha hb
  have hbase := zextPaddr_toNat s.cfg a hwf
  have hready := drawGrant_fst_ready s
  have hfree := drawGrant_fst_free s
  rw [exec, execBind_fixed s _ _ hl (hbase.trans ha) (congrArg BitVec.toNat hb), drawGrant_snd, hbase, wordOf_toNat]
  cases hg : (drawGrant s).1 with
  | true  => exact ⟨_, true, rfl, rfl, rfl, hg ▸ hready, hg ▸ hfree⟩
  | false => exact ⟨_, false, rfl, rfl, rfl, hg ▸ hready, hg ▸ hfree⟩

/-! ## UNBIND (R501) -/

theorem execUnbind_mapped (s : State) (hl : s.life = .mapped) :
    execUnbind s = .next ((s.setLife .released).answer ⟨0, 0, 0⟩) := if_neg (not_not.mpr hl)

theorem execUnbind_unmapped (s : State) (hl : s.life ≠ .mapped) : execUnbind s = .next (s.answer ⟨1, 0, 0⟩) := if_pos hl

/-- Settles O33, by whether a mapping exists. -/
theorem unbindReleasesTheMapping : Obligations.UnbindReleasesTheMapping := by
  unfold Obligations.UnbindReleasesTheMapping
  refine fun s a b => ⟨decode_of_opcode .unbind ⟨8, a, b⟩ rfl, ?_⟩
  by_cases hl : s.life = .mapped
  · exact ⟨_, execUnbind_mapped s hl, (if_pos hl).mpr rfl⟩
  · exact ⟨_, execUnbind_unmapped s hl, (if_neg hl).mpr (s.onlyResponds_answer _)⟩

/-! ## The transitions of LIFE (R502) -/

/-- A request leaves LIFE as it was, or it is a BIND from UNBOUND or an UNBIND from MAPPED. -/
theorem exec_life_cases (i : Instr) (s t : State) (h : exec i s = .next t) :
    t.life = s.life
    ∨ ((∃ b z, i = .bind b z) ∧ s.life = .unbound ∧ (t.life = .mapped ∨ t.life = .dead))
    ∨ (i = .unbind ∧ s.life = .mapped ∧ t.life = .released) := by
  rcases exec_cases i s t h with ⟨_, _, -, rfl⟩ | ⟨-, rfl⟩ | ⟨-, -, rfl⟩ | ⟨-, -, rfl⟩ | ⟨f, -, hf⟩
    | ⟨_, _, _, _, -, -, -, -, rfl⟩ | ⟨_, _, _, _, -, -, -, -, rfl⟩ | ⟨_, _, _, -, -, -, -, rfl⟩ | ⟨_, _, _, -, -, -, rfl⟩
    | ⟨b, z, _, hi, hl, -, -, rfl⟩ | ⟨b, z, _, hi, hl, rfl⟩ | ⟨hi, hl, rfl⟩
  case inr.inr.inr.inr.inl => exact .inl (congrArg State.life (raise_next f s t hf).1 :)
  case inr.inr.inr.inr.inr.inr.inr.inr.inr.inl => exact .inr (.inl ⟨⟨b, z, hi⟩, hl, .inl rfl⟩)
  case inr.inr.inr.inr.inr.inr.inr.inr.inr.inr.inl => exact .inr (.inl ⟨⟨b, z, hi⟩, hl, .inr rfl⟩)
  case inr.inr.inr.inr.inr.inr.inr.inr.inr.inr.inr => exact .inr (.inr ⟨hi, hl, rfl⟩)
  all_goals exact .inl rfl

/-- No move of the port changes LIFE. -/
theorem portMove_life (s t : State) (h : portMove s = .next t) : t.life = s.life := by
  rcases portMove_next_cases s t h with rfl | ⟨e, -, -, hf⟩ | ⟨k, e, r, -, -, ⟨u, hu, rfl⟩ | ⟨-, rfl⟩⟩ | ⟨c, e, r, rs, -, -, rfl⟩
  · rfl
  · exact (congrArg State.life (raise_next _ _ t hf).1 :)
  · exact (congrArg State.life (busWrite_state _ _ _ u hu) :)
  · rfl
  · rfl

/-- Settles O34: of all a step can do, only a request performed changes LIFE. -/
theorem onlyBindAndUnbindChangeLife : Obligations.OnlyBindAndUnbindChangeLife := by
  unfold Obligations.OnlyBindAndUnbindChangeLife
  intro s t h
  obtain ⟨-, -, ⟨r, i, hq, hd, he⟩ | ⟨r, e, -, -, rfl⟩ | ⟨-, hp⟩⟩ := step_cases s t h
  · obtain hsame | ⟨⟨b, z, rfl⟩, hl, ht⟩ | ⟨rfl, hl, ht⟩ := exec_life_cases i s t he
    · exact .inl hsame
    · exact .inr (.inl ⟨r, b, z, hq, hd, hl, ht⟩)
    · exact .inr (.inr ⟨r, hq, hd, hl, ht⟩)
  · exact .inl rfl
  · exact .inl (portMove_life s t hp)

/-! ## The end of a run (R514) -/

/-- Where every caller's sequence is empty, no caller may issue. -/
theorem ready_of_no_requests (s : State) (h : ∀ q ∈ s.queues, q = []) : s.ready = [] := by
  refine List.eq_nil_iff_forall_not_mem.mpr fun c hc => ?_
  obtain ⟨-, -, hne, -⟩ := (mem_ready_iff s c).mp hc
  cases hq : s.queues[c]? with
  | none   => exact hne (by rw [State.queueOf, hq]; rfl)
  | some q => exact hne (by rw [State.queueOf, hq]; exact h q (List.mem_of_getElem? hq))

/-- Settles O8: at a good end the port has no move. -/
theorem endedRunWaits : Obligations.EndedRunWaits := by
  unfold Obligations.EndedRunWaits
  rintro s ⟨hrun, hreq, hin, hend⟩
  have hready : s.ready = [] := hend.elim (ready_of_no_requests s) (ready_dead s)
  have h0 : s.moves = 0 := by simp [State.moves, hin, hready]
  rw [step_of_no_req s hrun hreq, portMove, if_pos h0]

end Sys2Proof.Machine

/-! ## The host's collaborators (R510, R512): what they issue decodes to the instructions that fit -/

namespace Sys2Proof.Machine

theorem isU32_iff (n : Nat) : isU32 n = true ↔ n < 2 ^ 32 := decide_eq_true_iff

theorem isS32_iff (z : Int) : isS32 z = true ↔ -2 ^ 31 ≤ z ∧ z < 2 ^ 31 := by
  rw [isS32, Bool.and_eq_true, decide_eq_true_iff, decide_eq_true_iff]

theorem wf_configureMode_iff (pin : Nat) (mode : Int) :
    (Instr.configureMode pin mode).wf = true ↔ pin < 2 ^ 32 ∧ -2 ^ 31 ≤ mode ∧ mode < 2 ^ 31 := by
  rw [Instr.wf, Bool.and_eq_true, isU32_iff, isS32_iff]

theorem wf_writePin_iff (pin : Nat) (value : Int) :
    (Instr.writePin pin value).wf = true ↔ pin < 2 ^ 32 ∧ -2 ^ 31 ≤ value ∧ value < 2 ^ 31 := by
  rw [Instr.wf, Bool.and_eq_true, isU32_iff, isS32_iff]

theorem wf_readPin_iff (pin : Nat) : (Instr.readPin pin).wf = true ↔ pin < 2 ^ 32 := isU32_iff pin

theorem wf_bind_word_iff (base : Nat) (size : Word) : (Instr.bind base size.toNat).wf = true ↔ base < 2 ^ 32 := by
  rw [Instr.wf, Bool.and_eq_true, isU32_iff, isU32_u32, and_iff_left rfl]

theorem hostRequest_eq_none (i : Instr) (h : ¬ i.wf = true) : hostRequest i = none :=
  hostRequest_not_wf i (Bool.eq_false_of_not_eq_true h)

/-- The request issued for an instruction that fits decodes to it. -/
theorem exists_hostRequest (i : Instr) (h : i.wf = true) : ∃ r, hostRequest i = some r ∧ decode r = .ok i :=
  ⟨_, hostRequest_wf i h, decode_encode i h⟩

/-- The requests issued for a list of instructions decode, in order, to those that fit. -/
theorem map_decode_filterMap_hostRequest {α : Type} (f : α → Instr) (xs : List α) :
    (xs.filterMap fun x => hostRequest (f x)).map decode = (xs.filter fun x => (f x).wf).map fun x => .ok (f x) := by
  rw [filterMap_hostRequest, List.map_map]
  exact List.map_congr_left fun x hx => decode_encode (f x) (List.mem_filter.mp hx).2

theorem startupProgram_decodes (c : Config) (layout : List (Nat × Int)) (h : c.gpioBase < 2 ^ 32) :
    (startupProgram c layout).map decode
      = .ok (.bind c.gpioBase c.blockSize.toNat)
        :: (layout.filter fun m => (Instr.configureMode m.1 m.2).wf).map fun m => .ok (.configureMode m.1 m.2) := by
  have hwf := (wf_bind_word_iff c.gpioBase c.blockSize).mpr h
  rw [startupProgram, hostRequest_wf _ hwf, List.map_cons, decode_encode _ hwf, map_decode_filterMap_hostRequest]

theorem startupProgram_eq_nil (c : Config) (layout : List (Nat × Int)) (h : 2 ^ 32 ≤ c.gpioBase) : startupProgram c layout = [] := by
  rw [startupProgram, hostRequest_eq_none _ (mt (wf_bind_word_iff _ _).mp (not_lt.mpr h))]

theorem shutdownProgram_decodes (safe : List SafeDrive) :
    (shutdownProgram safe).map decode
      = ((safe.filter fun d => (safeDriveInstr d).wf).map fun d => .ok (safeDriveInstr d)) ++ [.ok .unbind] := by
  rw [shutdownProgram, List.map_append, map_decode_filterMap_hostRequest, List.map_singleton, decode_encode _ rfl]

/-- Settles O51: each program decodes to what fits of it, in order, and where everything fits that is all of it. -/
theorem startupAndShutdownProgramsKeepTheirOrder : Obligations.StartupAndShutdownProgramsKeepTheirOrder := by
  unfold Obligations.StartupAndShutdownProgramsKeepTheirOrder
  refine ⟨fun c layout => ⟨fun hbase hfits => ?_, startupProgram_decodes c layout, startupProgram_eq_nil c layout⟩,
    fun safe => ⟨fun hfits => ?_, shutdownProgram_decodes safe⟩, fun _ _ => rfl, fun _ _ => rfl⟩
  · rw [startupProgram_decodes c layout hbase, List.filter_eq_self.mpr fun m hm => (wf_configureMode_iff m.1 m.2).mpr (hfits m hm)]
  · rw [shutdownProgram_decodes safe, List.filter_eq_self.mpr hfits]

/-- Settles O48: with both parses the bridge issues the host's request for the instruction, if its numbers fit; else it issues none. -/
theorem attributeBridgeKeepsItsContract : Obligations.AttributeBridgeKeepsItsContract := by
  unfold Obligations.AttributeBridgeKeepsItsContract
  refine fun pin value => ⟨fun hp => ?_, fun hp hlo hhi => ?_, fun hp => ⟨?_, ?_⟩, fun hv => ?_, rfl, fun _ => rfl, fun p => ?_, rfl, rfl,
    fun _ _ => if_pos rfl, fun _ hr => if_neg hr⟩
  · exact exists_hostRequest (.readPin pin) ((wf_readPin_iff pin).mpr hp)
  · exact exists_hostRequest (.writePin pin value) ((wf_writePin_iff pin value).mpr ⟨hp, hlo, hhi⟩)
  · exact hostRequest_eq_none (.readPin pin) (by rw [wf_readPin_iff]; omega)
  · exact hostRequest_eq_none (.writePin pin value) (by rw [wf_writePin_iff]; omega)
  · exact hostRequest_eq_none (.writePin pin value) (by rw [wf_writePin_iff]; omega)
  · cases p <;> rfl

end Sys2Proof.Machine

/-! # Exceptions: a stopped block, and what an error or a fault leaves of the state -/

/-! ## A stopped block (R606, R607) -/

namespace Sys2Proof.Machine

theorem FaultCode.code_ne_zero (f : FaultCode) : f.code ≠ 0 := by cases f <;> decide

theorem stopReason_code (f : FaultCode) : stopReason f.code = .stopped f := by cases f <;> rfl

/-- Settles O7: a fault's code is not 0 and names that fault. -/
theorem faultedBlockStops : Obligations.FaultedBlockStops := by
  unfold Obligations.FaultedBlockStops
  intro s f hf
  rw [step, hf, if_pos f.code_ne_zero, stopReason_code]

theorem step_of_refused (s : State) (hf : s.fault = 0) (hr : s.refused = true) : step s = .refused (refusalReason s) := by
  rw [step, if_neg (not_not.mpr hf), if_pos hr]

theorem refusalReason_reservedBits (s : State) (r : Request) (hq : s.req = some r) (h : r.w0.toNat / 16 ≠ 0) :
    refusalReason s = .reservedBits := by
  simp only [refusalReason, hq, decode_reservedBits r h]

theorem refusalReason_reservedOpcode (s : State) (r : Request) (hq : s.req = some r) (hrsv : r.w0.toNat / 16 = 0)
    (hop : r.w0.toNat % 16 = 0 ∨ 9 ≤ r.w0.toNat % 16) : refusalReason s = .reservedOpcode := by
  simp only [refusalReason, hq, decode_reservedOpcode r hrsv hop]

theorem refusalReason_legal (s : State) (r : Request) (i : Instr) (hq : s.req = some r) (hd : decode r = .ok i) :
    refusalReason s = .rawAccess := by
  simp only [refusalReason, hq, hd]

theorem refusalReason_none (s : State) (hq : s.req = none) : refusalReason s = .rawAccess := by
  simp only [refusalReason, hq]

theorem exists_decode_of_not_reservedW0 (r : Request) (h : ¬ ReservedW0 r.w0) : ∃ i, decode r = .ok i := by
  obtain ⟨i, hi⟩ := exists_opcode_of_not_reservedW0 r.w0 h
  exact ⟨_, decode_of_opcode i r hi⟩

/-- A step that sets REFUSED refused the request it held, which is a reserved one; it changed nothing else (R304). -/
theorem reservedW0_of_step_refuses (s t : State) (r : Request) (hr : s.Running) (hq : s.req = some r) (h : step s = .next t)
    (ht : t.refused = true) : ReservedW0 r.w0 ∧ t = s.setRefused := by
  rw [step_of_req s r hr hq] at h
  by_cases hres : ReservedW0 r.w0
  · obtain ⟨e, he⟩ := decode_of_reservedW0 r hres
    rw [performRequest, he] at h
    exact ⟨hres, (Host.Outcome.next.inj h).symm⟩
  · obtain ⟨i, hi⟩ := exists_decode_of_not_reservedW0 r hres
    rw [performRequest, hi] at h
    obtain ⟨-, -, -, hkept, -⟩ := exec_frame i s t h
    exact absurd (hkept.symm.trans ht) (by simp [hr.2])

/-- Settles O3, by the reason read off the request held, which a step that refuses it leaves in REQ. -/
theorem refusedBlockStopsByReason : Obligations.RefusedBlockStopsByReason := by
  unfold Obligations.RefusedBlockStopsByReason
  refine ⟨fun s hf hr => ?_, fun s t r hrun hq hs ht => ?_⟩
  · rw [step_of_refused s hf hr]
    refine ⟨fun r hq => ⟨fun hrsv => ?_, fun hrsv hop => ?_, fun hrsv h0 h9 => ?_⟩, fun hq => ?_⟩
    · rw [refusalReason_reservedBits s r hq hrsv]
    · rw [refusalReason_reservedOpcode s r hq hrsv hop]
    · obtain ⟨i, hi⟩ := exists_decode_of_not_reservedW0 r (by unfold ReservedW0; omega)
      rw [refusalReason_legal s r i hq hi]
    · rw [refusalReason_none s hq]
  · obtain ⟨hres, rfl⟩ := reservedW0_of_step_refuses s t r hrun hq hs ht
    rw [step_of_refused s.setRefused hrun.1 rfl]
    split
    next hrsv => rw [refusalReason_reservedBits s.setRefused r hq hrsv]
    next hrsv => rw [refusalReason_reservedOpcode s.setRefused r hq (not_not.mp hrsv) (hres.resolve_left hrsv)]

end Sys2Proof.Machine

/-! ## Every request answers a next state (R601, R606) -/

namespace Sys2Proof.Machine

theorem exists_raise_next (f : FaultCode) (s : State) : ∃ t, raise f s = .next t := by
  obtain ⟨t, ht, -⟩ := raise_cases f s
  exact ⟨t, ht⟩

/-- CONFIGURE_MODE past its checks, under either ordering model (R210, R211). -/
theorem execConfigureMode_answers (s : State) (p : Nat) (m : Int) (c : BitVec 3) (hl : s.life = .mapped) (hm : modeCode m = some c)
    (hi : fselIndex p < 6) : ∃ t, execConfigureMode p m s = .next t := by
  cases hs : s.cfg.serialized with
  | true  => exact ⟨_, execConfigureMode_serialized s p m c hl hm hi hs⟩
  | false => exact ⟨_, execConfigureMode_unserialized s p m c hl hm hi hs⟩

theorem pinController_answers (i : Instr) (hi : Instr.IsPinController i) (s : State) : ∃ t, exec i s = .next t := by
  obtain ⟨r, hr⟩ | hr | ⟨hl, ⟨p, m, c, rfl, hm, hp⟩ | ⟨p, v, b, rfl, hv, hp⟩ | ⟨p, rfl, hp⟩⟩ := pinController_checks i hi s.life
  · exact ⟨_, hr s rfl⟩
  · rw [hr s rfl]
    exact exists_raise_next _ s
  · exact execConfigureMode_answers s p m c hl hm hp
  · exact ⟨_, execWritePin_mapped s p v b hl hv hp⟩
  · exact ⟨_, execReadPin_mapped s p hl hp⟩

theorem execBind_answers (base size : Nat) (s : State) : ∃ t, execBind base size s = .next t := by
  by_cases hl : s.life = .unbound
  · by_cases ha : zextPaddr s.cfg base ≠ s.cfg.gpioBase ∨ size ≠ s.cfg.blockSize.toNat
    · rw [execBind_args s base size hl ha]
      exact exists_raise_next _ s
    · obtain ⟨hb, hz⟩ := not_or.mp ha
      rw [execBind_fixed s base size hl (not_not.mp hb) (not_not.mp hz)]
      split
      · exact ⟨_, rfl⟩
      · exact ⟨_, rfl⟩
  · rw [execBind_lifecycle s base size hl]
    exact exists_raise_next _ s

theorem execUnbind_answers (s : State) : ∃ t, execUnbind s = .next t := by
  by_cases hl : s.life = .mapped
  · exact ⟨_, execUnbind_mapped s hl⟩
  · exact ⟨_, execUnbind_unmapped s hl⟩

/-- Settles O11, by what each request answers past its checks and where it fails one. -/
theorem everyRequestAnswersANextState : Obligations.EveryRequestAnswersANextState := by
  unfold Obligations.EveryRequestAnswersANextState
  intro i s
  cases i with
  | fselIndex p       => exact ⟨_, exec_fselIndex p s⟩
  | fselOffset p      => exact ⟨_, exec_fselOffset p s⟩
  | bitIndex p        => exact ⟨_, exec_bitIndex p s⟩
  | configureMode p m => exact pinController_answers _ (.inl ⟨p, m, rfl⟩) s
  | writePin p v      => exact pinController_answers _ (.inr (.inl ⟨p, v, rfl⟩)) s
  | readPin p         => exact pinController_answers _ (.inr (.inr ⟨p, rfl⟩)) s
  | bind b z          => exact execBind_answers b z s
  | unbind            => exact execUnbind_answers s

end Sys2Proof.Machine

/-! ## Errors (R600, R601) -/

namespace Sys2Proof.Machine

/-- The four responses that are not OK: who answers each, and what the request did before it. -/
theorem exec_error_cases (i : Instr) (s t : State) (h : exec i s = .next t) (hpc : t.pc = s.pc + 1) (hst : t.rsp.status ≠ 0) :
    (s.life ≠ .mapped ∧ t = s.answer ⟨1, 0, 0⟩)
    ∨ ((∃ p m, i = .configureMode p m ∧ m ≠ 0 ∧ m ≠ 1) ∧ t = s.answer ⟨2, 0, 0⟩)
    ∨ ((∃ p v, i = .writePin p v ∧ v ≠ 0 ∧ v ≠ 1) ∧ t = s.answer ⟨3, 0, 0⟩)
    ∨ (∃ b z e, i = .bind b z ∧ t = ((s.setEnv e).setLife .dead).answer ⟨4, 0, 0⟩) := by
  have hresp : t.pc ≠ s.pc := by omega
  rcases exec_cases i s t h with ⟨_, _, -, rfl⟩ | ⟨hl, rfl⟩ | ⟨-, hm, rfl⟩ | ⟨-, hv, rfl⟩ | ⟨f, -, hf⟩
    | ⟨_, _, _, _, -, -, -, -, rfl⟩ | ⟨_, _, _, _, -, -, -, -, rfl⟩ | ⟨_, _, _, -, -, -, -, rfl⟩ | ⟨_, _, _, -, -, -, rfl⟩
    | ⟨_, _, _, -, -, -, -, rfl⟩ | ⟨b, z, e, hi, -, rfl⟩ | ⟨-, -, rfl⟩
  case inr.inl => exact .inl ⟨hl, rfl⟩
  case inr.inr.inl => exact .inr (.inl ⟨hm, rfl⟩)
  case inr.inr.inr.inl => exact .inr (.inr (.inl ⟨hv, rfl⟩))
  case inr.inr.inr.inr.inl => exact absurd (congrArg State.pc (raise_next f s t hf).1 :) hresp
  case inr.inr.inr.inr.inr.inr.inl => exact absurd rfl hresp
  case inr.inr.inr.inr.inr.inr.inr.inr.inr.inr.inl => exact .inr (.inr (.inr ⟨b, z, e, hi, rfl⟩))
  all_goals exact absurd rfl hst

/-- Settles O35: each of the four error responses is all that the request did, save BIND's draw and its LIFE. -/
theorem errorsHaveNoSideEffect : Obligations.ErrorsHaveNoSideEffect := by
  unfold Obligations.ErrorsHaveNoSideEffect
  intro i s t h hpc hst
  obtain ⟨hl, rfl⟩ | ⟨hm, rfl⟩ | ⟨hv, rfl⟩ | ⟨b, z, e, hi, rfl⟩ := exec_error_cases i s t h hpc hst
  · exact ⟨rfl, rfl, .inl ⟨rfl, hl, s.onlyResponds_answer _⟩⟩
  · exact ⟨rfl, rfl, .inr (.inl ⟨rfl, hm, s.onlyResponds_answer _⟩)⟩
  · exact ⟨rfl, rfl, .inr (.inr (.inl ⟨rfl, hv, s.onlyResponds_answer _⟩))⟩
  · exact ⟨rfl, rfl, .inr (.inr (.inr ⟨rfl, ⟨b, z, hi⟩, rfl⟩))⟩

end Sys2Proof.Machine

/-! ## Faults (R605, R606) -/

namespace Sys2Proof.Machine

theorem FaultCode.one_le_code (f : FaultCode) : 1 ≤ f.code.toNat := by cases f <;> decide

/-- The first fault raised is recorded, and that is all. -/
theorem raise_next_first (f : FaultCode) (s t : State) (hf : s.fault = 0) (h : raise f s = .next t) : t = s.setFault f.code :=
  (Host.Outcome.next.inj ((raise_first f s hf).symm.trans h)).symm

/-- A request after which FAULT is recorded raised it. -/
theorem exec_faults (i : Instr) (s t : State) (hf : s.fault = 0) (h : exec i s = .next t) (ht : t.fault ≠ 0) :
    ∃ f : FaultCode, t = s.setFault f.code := by
  rcases exec_ends i s t h with ⟨f, hr⟩ | ⟨hresp, -⟩ | ⟨-, x, r, rfl⟩
  · exact ⟨f, raise_next_first f s t hf hr⟩
  · exact absurd ((congrArg State.fault hresp).trans hf) ht
  · exact absurd hf ht

/-- A move of the port after which FAULT is recorded raised it, and chose the move before that. -/
theorem portMove_faults (s t : State) (hf : s.fault = 0) (h : portMove s = .next t) (ht : t.fault ≠ 0) :
    ∃ (f : FaultCode) (e : Env), t = (s.setEnv e).setFault f.code := by
  rcases portMove_next_cases s t h with rfl | ⟨e, -, -, hr⟩ | ⟨k, e, r, -, -, ⟨u, hu, rfl⟩ | ⟨-, rfl⟩⟩ | ⟨c, e, r, rs, -, -, rfl⟩
  · exact absurd hf ht
  · exact ⟨_, e, raise_next_first _ (s.setEnv e) t hf hr⟩
  · exact absurd ((congrArg State.fault (busWrite_state _ _ _ u hu)).trans hf) ht
  · exact absurd hf ht
  · exact absurd hf ht

/-- A step after which FAULT is recorded wrote FAULT and, at most, the environment's side (R606). -/
theorem step_faults (s t : State) (h : step s = .next t) (ht : t.fault ≠ 0) :
    ∃ (f : FaultCode) (e : Env), t = (s.setEnv e).setFault f.code := by
  obtain ⟨hf, -, ⟨r, i, -, -, he⟩ | ⟨r, e, -, -, rfl⟩ | ⟨-, hp⟩⟩ := step_cases s t h
  · obtain ⟨f, rfl⟩ := exec_faults i s t hf he ht
    exact ⟨f, s.env, rfl⟩
  · exact absurd hf ht
  · exact portMove_faults s t hf hp ht

/-- Settles O36: FAULT took the code of one of the four faults. -/
theorem faultsChangeOnlyFault : Obligations.FaultsChangeOnlyFault := by
  unfold Obligations.FaultsChangeOnlyFault
  intro s t h ht
  obtain ⟨f, e, rfl⟩ := step_faults s t h ht
  exact ⟨rfl, f.one_le_code, f.code_le⟩

end Sys2Proof.Machine

/-! # Hazards: use after release, writes to different pins, and how much one step does -/

/-! ## Use after release (R712) -/

namespace Sys2Proof.Machine

/-- The write of a request in flight, with no mapping, raises the block's first fault, USE_AFTER_RELEASE (R451, R606). -/
theorem finishRmw_faults (s : State) (k : Nat) (hf : s.fault = 0) (hl : s.life ≠ .mapped) (hk : k < s.inflight.length) :
    finishRmw k s = .next { s with fault := 4 } :=
  (finishRmw_released s k hk hl).trans (raise_first .useAfterRelease s hf)

/-- With requests in flight and no caller that may issue, every move of the port is a write of one of them. -/
theorem portMove_finishes_of_ready_nil (s : State) (hin : s.inflight ≠ []) (hready : s.ready = []) :
    ∃ k e, k < s.inflight.length ∧ portMove s = finishRmw k (s.setEnv e) := by
  obtain ⟨h0, -⟩ | h | ⟨c, hc, -⟩ := portMove_cases s
  · simp [State.moves, hin] at h0
  · exact h
  · simp [hready] at hc

/-- Settles O22: the move taken is the write of a request in flight, and that write faults. -/
theorem writeAfterReleaseFaults : Obligations.WriteAfterReleaseFaults := by
  unfold Obligations.WriteAfterReleaseFaults
  intro s hr hq hl
  have hfaults : ∀ k e, k < s.inflight.length → finishRmw k (s.setEnv e) = .next { s with fault := 4, env := e } :=
    fun k e hk => finishRmw_faults (s.setEnv e) k hr.1 hl hk
  refine ⟨fun k e hk he => (step_finishes s k e hr hq hk he).trans (hfaults k e hk), fun hin hqs => ?_⟩
  obtain ⟨k, e, hk, hp⟩ := portMove_finishes_of_ready_nil s hin (ready_of_no_requests s hqs)
  exact ⟨_, (step_of_no_req s hr hq).trans (hp.trans (hfaults k e hk)), rfl⟩

end Sys2Proof.Machine

/-! ## Writes to different pins (R711) -/

namespace Sys2Proof.Machine

/-- The level a WRITE_PIN of the value `v` gives the latch of a pin below 64, none where a check fails and the latch is left (R450, R452). -/
def Life.levelWritten (l : Life) (v : Int) : Option Bool := if l = .mapped then pinValue v else none

/-- What a WRITE_PIN of a pin below 64 leaves, whether or not it passes its checks: its own pin's latch bit, alone, takes the level
written, if any (R109, R110). -/
theorem writePin_outputs (s t : State) (p : Nat) (v : Int) (hp : p < 64) (h : exec (.writePin p v) s = .next t) :
    t.life = s.life ∧ t.fsel = s.fsel
      ∧ ∀ b < 64, t.latch.getLsbD b = if b = p then (s.life.levelWritten v).getD (s.latch.getLsbD b) else s.latch.getLsbD b := by
  by_cases hl : s.life = .mapped
  · cases hv : pinValue v with
    | none =>
      obtain rfl := Host.Outcome.next.inj ((execWritePin_invalid s p v hl hv).symm.trans h)
      exact ⟨rfl, rfl, fun b _ => by rw [Life.levelWritten, if_pos hl, hv, Option.getD_none, ite_self, State.answer_latch]⟩
    | some w =>
      obtain ⟨hfsel, hlatch, hlife, -⟩ := writePin_leaves p v w hl hv ((bitReg_lt_iff p).mpr hp) h
      refine ⟨hlife, hfsel, fun b hb => ?_⟩
      rw [hlatch, getLsbD_written _ p w b hb, Life.levelWritten, if_pos hl, hv, Option.getD_some]
  · obtain rfl := Host.Outcome.next.inj ((execWritePin_unmapped s p v hl).symm.trans h)
    exact ⟨rfl, rfl, fun b _ => by rw [Life.levelWritten, if_neg hl, Option.getD_none, ite_self, State.answer_latch]⟩

/-- Settles O29: each of the two writes gives its own pin's latch bit a level that does not depend on the other. -/
theorem writesToDifferentPinsCommute : Obligations.WritesToDifferentPinsCommute := by
  unfold Obligations.WritesToDifferentPinsCommute
  intro s s1 s2 t1 t2 p q v w hp hq hpq hs1 hs2 ht1 ht2
  obtain ⟨hlife1, hfsel1, hbit1⟩ := writePin_outputs s s1 p v hp hs1
  obtain ⟨-, hfsel2, hbit2⟩ := writePin_outputs s1 s2 q w hq hs2
  obtain ⟨hlife1', hfsel1', hbit1'⟩ := writePin_outputs s t1 q w hq ht1
  obtain ⟨-, hfsel2', hbit2'⟩ := writePin_outputs t1 t2 p v hp ht2
  refine ⟨BitVec.eq_of_getLsbD_eq fun b hb => ?_, by rw [hfsel2, hfsel1, hfsel2', hfsel1']⟩
  rw [hbit2 b hb, hbit1 b hb, hbit2' b hb, hbit1' b hb, hlife1, hlife1']
  by_cases hbp : b = p
  · have hbq : b ≠ q := fun hbq => hpq (hbp.symm.trans hbq)
    rw [if_neg hbq, if_neg hbq]
  · rw [if_neg hbp, if_neg hbp]

end Sys2Proof.Machine

/-! ## The transactions of one step (R720) -/

namespace Sys2Proof.Machine

/-- Settles O45, by the transactions that a request or a move of the port issues. -/
theorem atMostTwoTransactionsAStep : Obligations.AtMostTwoTransactionsAStep := by
  unfold Obligations.AtMostTwoTransactionsAStep
  intro s t h
  obtain ⟨xs, hbus, hlen, -⟩ := step_transacts s t h
  exact ⟨xs, hbus, hlen⟩

end Sys2Proof.Machine
